-- ==== Sys2Proof/Word.lean ====
section
/-! DEFINITION. The machine's word types (00_scope.md rules R6, R8, R9).

Bit 0 is the least significant bit of every word. A 16-bit value is read as signed two's complement where a rule says
so (`BitVec.toInt`; R9, spec item G1), an 8-bit value as unsigned (`BitVec.toNat`). -/

namespace Sys2Proof

/-- One byte: a channel identifier (CHAN_W = 8), a duty value (DUTY_W = 8) or one byte of a serialised command. -/
abbrev Byte := BitVec 8

/-- A 16-bit operand or register (INPUT_W = SPIN_W = 16, and the Q1.15 gains). -/
abbrev Half := BitVec 16

/-- A 32-bit IEEE-754 binary32 pattern (POS_FORMAT). -/
abbrev F32 := BitVec 32

/-- A command word (CMD_W = 96). -/
abbrev CmdWord := BitVec 96

end Sys2Proof
end

