-- ==== Sys2Proof/Machine/Binary32.lean ====
section
/-! DEFINITION. IEEE-754 binary32 patterns: their exact value (30_encoding.md rule R79) and the conversion of a decimal
literal to the nearest pattern (rule R83).

Every finite binary32 value is a whole multiple of 2^-149, so this file holds values exactly as integers that count
units of 2^-149 (assumption log 6). -/

namespace Sys2Proof.Machine

/-- The exponent field e = b[30:23] (R79). -/
def f32Exponent (b : F32) : Nat := (b.extractLsb' 23 8).toNat

/-- The fraction field f = b[22:0] (R79). -/
def f32Fraction (b : F32) : Nat := (b.extractLsb' 0 23).toNat

/-- The magnitude of a finite pattern in units of 2^-149 (R79): `f` when e = 0, and
`2^(e-127) * (1 + f / 2^23) = (2^23 + f) * 2^(e-1)` units otherwise. -/
def f32Units (b : F32) : Nat :=
  if f32Exponent b = 0 then f32Fraction b else (2 ^ 23 + f32Fraction b) * 2 ^ (f32Exponent b - 1)

/-- `f32val(b)` of R79 in units of 2^-149; `none` is the marker NONFINITE (e = 255: an infinity or a NaN). -/
def f32val (b : F32) : Option Int :=
  if f32Exponent b = 255 then none
  else some (if b.msb then -(f32Units b : Int) else (f32Units b : Int))

/-- The integer nearest `n / d`, ties to even (R83). -/
def roundHalfEven (n d : Nat) : Nat :=
  if 2 * (n % d) < d then n / d
  else if d < 2 * (n % d) then n / d + 1
  else if n / d % 2 = 0 then n / d else n / d + 1

/-- The least number `q` of doublings, at most the fuel, after which `n / (d * 2^q)` is below 2^24, with the doubled
denominator: the place of the last significand bit of `n / d`. -/
def f32Place (n : Nat) : Nat → Nat → Nat → Nat × Nat
  | 0, q, d => (q, d)
  | k + 1, q, d => if n < d * 2 ^ 24 then (q, d) else f32Place n k (q + 1) (2 * d)

/-- The magnitude pattern (sign bit clear) nearest `num / den`, ties to an even fraction (R83). With the significand
`m` rounded at place `q`, the pattern is `q * 2^23 + m`: the hidden bit of `m` carries into the exponent field. A result
at or above 0x7F800000 is no finite binary32. -/
def f32NearestMagnitude (num den : Nat) : Nat :=
  let place := f32Place (num * 2 ^ 149) 254 0 den
  place.1 * 2 ^ 23 + roundHalfEven (num * 2 ^ 149) place.2

/-- The binary32 pattern nearest `± num / den`; `none` when the magnitude rounds beyond the largest finite value,
which R83 makes an assembly error. The sign is kept on zero, so that the literal -0.0 gives 0x80000000
(95_test_vectors.md section 3). -/
def f32Nearest (neg : Bool) (num den : Nat) : Option F32 :=
  let m := f32NearestMagnitude num den
  if m < 0x7F800000 then some (BitVec.ofNat 32 (if neg then 0x80000000 + m else m)) else none

end Sys2Proof.Machine
end

