-- ==== Sys2Proof/Config.lean ====
section
/-! DEFINITION. The implementation parameters of an MMAC instance (00_scope.md rule R6, 10_state.md rule R31).

The fixed and decided parameters are constants. The OPEN ones are the fields of `ParamValues`, an argument of the model:
a `Params` is a parameter set together with the proof that R6 and R101 allow it, so an invalid instance cannot be built
(92_eei_decisions.md D16; 93_implementation_defined.md U6: refuse). -/

namespace Sys2Proof

/-- GAIN_SCALE = GAIN_MAX = 32767 (R6; 90_conflicts.md C4). -/
abbrev Config.gainScale : Nat := 32767

/-- DUTY_SHIFT = 3: the pulse is divided by 8 (R6). -/
abbrev Config.dutyShift : Nat := 3

/-- The number of low product bits the multiplier drops: MUL_W keeps the high 16 of 32 (R6). -/
abbrev Config.mulShift : Nat := 16

/-- The yaw policy YAW_MODE (R6, D13). -/
inductive YawMode where
  /-- SIGN, the default: the sign of SPIN adds or subtracts the yaw command (R134). -/
  | sign
  /-- MULTIPLY, the earlier variant: SPIN multiplies the yaw command (R135). -/
  | multiply
  deriving DecidableEq, Repr

/-- The OPEN parameters of R6, unchecked. -/
structure ParamValues where
  /-- YAW_MODE -/
  yawMode : YawMode
  /-- DEGEN_EPS, a binary32 pattern -/
  degenEps : F32
  /-- PULSE_STOP, microseconds -/
  pulseStop : Int
  /-- PULSE_FLOOR, microseconds -/
  pulseFloor : Int
  /-- PULSE_CEILING, microseconds -/
  pulseCeiling : Int
  /-- CONFIG_LATENCY, clock cycles -/
  configLatency : Nat
  deriving DecidableEq, Repr

/-- DEGEN_EPS must be finite and non-negative (R101). The pattern of -0 has the value 0, so it passes (log 7). -/
def epsLegal (b : F32) : Bool :=
  match Machine.f32val b with
  | some v => decide (0 ≤ v)
  | none => false

/-- The parameter sets that are an MMAC (R6: `0 <= PULSE_STOP <= PULSE_FLOOR <= PULSE_CEILING <= 2047` and
CONFIG_LATENCY >= 1; R101: DEGEN_EPS finite and non-negative). -/
abbrev ParamValues.Valid (v : ParamValues) : Prop :=
  0 ≤ v.pulseStop ∧ v.pulseStop ≤ v.pulseFloor ∧ v.pulseFloor ≤ v.pulseCeiling ∧ v.pulseCeiling ≤ 2047 ∧
    1 ≤ v.configLatency ∧ epsLegal v.degenEps = true

/-- The parameters of one instance, with the proof that they are a valid set. -/
structure Params extends ParamValues where
  /-- R6: an instance whose parameters break the constraint is not a valid MMAC. -/
  valid : toParamValues.Valid
  deriving DecidableEq, Repr

/-- Building an instance: an invalid parameter set is refused (R6, R181 last row, U6). -/
def Params.build? (v : ParamValues) : Option Params :=
  if h : v.Valid then some { v with valid := h } else none

/-- The default of DEGEN_EPS, 0x3C23D70A (R6, R101). -/
abbrev Config.defaultEps : F32 := 0x3C23D70A#32

/-- The reference configuration of R6, which every test vector of 95_test_vectors.md uses. R6 leaves CONFIG_LATENCY out
of it; 1 is the least legal value (DESIGN CHOICE, log 1). No statement about the machine rests on these values: they are
stated for every `Params`. -/
def Config.reference : Params where
  yawMode := .sign
  degenEps := Config.defaultEps
  pulseStop := 1000
  pulseFloor := 1100
  pulseCeiling := 2000
  configLatency := 1
  valid := by decide

end Sys2Proof
end

