-- ==== Sys2Proof/Syntax.lean ====
section
/-! DEFINITION. The MMAC's commands as decoded (30_encoding.md rules R75, R81), one constructor for each row of
spec/opcode_table.json, and the assembler's lines (rules R82 to R84).

An operand of a command has the bit width of its field, so every value of `Instr` is a command of the machine (R81: no
word is refused). -/

namespace Sys2Proof

/-- The operands of CONFIG (R72, R106): what the hidden operand latch holds while a CONFIG runs (R29). -/
structure ConfigOperands where
  /-- CFG_CHAN, unsigned -/
  chan : Byte
  /-- CFG_SPIN, signed -/
  spin : Half
  /-- CFG_MX, a binary32 pattern -/
  mx : F32
  /-- CFG_MY, a binary32 pattern -/
  my : F32
  deriving DecidableEq, Repr

/-- A decoded command. -/
inductive Instr where
  /-- OP 0x1: configure the motor (R106). -/
  | config (chan : Byte) (spin : Half) (mx my : F32)
  /-- OP 0x2: mix one control cycle's commands into one duty value (R140). -/
  | update (cx cy cyaw thr : Half)
  /-- OP 0x3: force the stop duty (R147). -/
  | stop
  /-- OP 0x0, reserved (R76). -/
  | reserved0
  /-- OP 0x4, reserved (R76). -/
  | reserved4
  /-- OP 0x5, reserved (R76). -/
  | reserved5
  /-- OP 0x6, reserved (R76). -/
  | reserved6
  /-- OP 0x7, reserved (R76). -/
  | reserved7
  /-- OP 0x8, reserved (R76). -/
  | reserved8
  /-- OP 0x9, reserved (R76). -/
  | reserved9
  /-- OP 0xA, reserved (R76). -/
  | reservedA
  /-- OP 0xB, reserved (R76). -/
  | reservedB
  /-- OP 0xC, reserved (R76). -/
  | reservedC
  /-- OP 0xD, reserved (R76). -/
  | reservedD
  /-- OP 0xE, reserved (R76). -/
  | reservedE
  /-- OP 0xF, reserved (R76). -/
  | reservedF
  deriving DecidableEq, Repr

/-- An integer operand of the assembler (R82). -/
inductive AsmInt where
  /-- Decimal, with an optional leading `-`. -/
  | dec (v : Int)
  /-- `0x...`: the raw bits of the field. -/
  | hex (raw : Nat)
  deriving DecidableEq, Repr

/-- A position operand of the assembler (R82, R83). -/
inductive AsmReal where
  /-- The decimal literal `± mant * 10^exp10`. -/
  | dec (neg : Bool) (mant : Nat) (exp10 : Int)
  /-- `0f` and eight hexadecimal digits: the raw binary32 pattern. -/
  | raw (pattern : F32)
  deriving DecidableEq, Repr

/-- One line of assembly (R82). There are no pseudo-instructions (R84). -/
inductive AsmLine where
  /-- `CONFIG <chan>, <spin>, <mx>, <my>` -/
  | config (chan spin : AsmInt) (mx my : AsmReal)
  /-- `UPDATE <cx>, <cy>, <cyaw>, <thr>` -/
  | update (cx cy cyaw thr : AsmInt)
  /-- `STOP` -/
  | stop
  /-- `.word96 <hex>` -/
  | word96 (raw : Nat)
  deriving DecidableEq, Repr

/-- Why the assembler rejects a line (R82, R83). -/
inductive AsmError where
  /-- A channel outside [0, 255]. -/
  | chanOutOfRange
  /-- A signed operand outside [-32768, 32767], or raw bits wider than its field. -/
  | intOutOfRange
  /-- A real literal that rounds beyond the largest finite binary32. -/
  | realOutOfRange
  /-- A `.word96` of more than 96 bits. -/
  | wordOutOfRange
  /-- A line that is none of the forms of R82. -/
  | badLine
  deriving DecidableEq, Repr

end Sys2Proof
end

