-- ==== Sys2Proof/WellFormed.lean ====
section
/-! DEFINITION. Which assembler lines are well-formed (30_encoding.md rules R82, R83): an operand out of range is an
assembly error.

A decoded `Instr` needs no check, since the width of each operand is the width of its field (R78, R80) and every word
decodes (R81). The check of a parameter set (R6) is `ParamValues.Valid` in Config.lean. -/

namespace Sys2Proof

/-- `<chan>` is in [0, 255], or raw bits that fit in 8 bits (R82). -/
def AsmInt.fitsChan : AsmInt → Bool
  | .dec v => decide (0 ≤ v ∧ v ≤ 255)
  | .hex raw => decide (raw < 2 ^ 8)

/-- A signed operand is in [-32768, 32767], or raw bits that fit in 16 bits (R82). -/
def AsmInt.fitsHalf : AsmInt → Bool
  | .dec v => decide (-32768 ≤ v ∧ v ≤ 32767)
  | .hex raw => decide (raw < 2 ^ 16)

/-- The numerator of a decimal literal's magnitude. -/
def decimalNum (mant : Nat) (exp10 : Int) : Nat := mant * 10 ^ exp10.toNat

/-- The denominator of a decimal literal's magnitude. -/
def decimalDen (exp10 : Int) : Nat := 10 ^ (-exp10).toNat

/-- The binary32 pattern of a position operand: the raw bits, or the nearest value (R83); `none` when the literal
rounds beyond the largest finite value. -/
def AsmReal.pattern? : AsmReal → Option F32
  | .raw b => some b
  | .dec neg mant exp10 => Machine.f32Nearest neg (decimalNum mant exp10) (decimalDen exp10)

/-- The first thing wrong with a line, if anything is (R82, R83). -/
def AsmLine.problem? : AsmLine → Option AsmError
  | .config chan spin mx my =>
    if !chan.fitsChan then some .chanOutOfRange
    else if !spin.fitsHalf then some .intOutOfRange
    else if mx.pattern?.isNone || my.pattern?.isNone then some .realOutOfRange
    else none
  | .update cx cy cyaw thr =>
    if cx.fitsHalf && cy.fitsHalf && cyaw.fitsHalf && thr.fitsHalf then none else some .intOutOfRange
  | .stop => none
  | .word96 raw => if raw < 2 ^ 96 then none else some .wordOutOfRange

/-- A line the assembler accepts. -/
abbrev AsmLine.WellFormed (l : AsmLine) : Prop := l.problem? = none

end Sys2Proof
end

