-- ==== Sys2Proof/Decode.lean ====
section
/-! DEFINITION. Decoding and encoding of command words (30_encoding.md), their byte serialisation (20_memory.md rule
R56) and the assembler's translation of a line (R82, R83).

`decodeWord` is total: every 96-bit word is a command (R81). -/

namespace Sys2Proof

/-- The field `W[lo + width - 1 : lo]` (R8). -/
def field (w : CmdWord) (lo width : Nat) : BitVec width := w.extractLsb' lo width

/-- OP = `W[3:0]`, which alone selects the command (R71). -/
def opField (w : CmdWord) : BitVec 4 := field w 0 4

/-- CONFIG's fields (R72); the RSV bits 7:4 are ignored (R77). -/
def decodeConfig (w : CmdWord) : Instr :=
  .config (field w 8 8) (field w 16 16) (field w 32 32) (field w 64 32)

/-- UPDATE's fields (R73); the RSV bits 95:80 and 15:4 are ignored (R77). -/
def decodeUpdate (w : CmdWord) : Instr :=
  .update (field w 16 16) (field w 32 16) (field w 48 16) (field w 64 16)

/-- The row of the opcode map for an OP value (R75), with the operands of a word. -/
def decodeRow (w : CmdWord) (op : Nat) : Instr :=
  match op with
  | 0x0 => .reserved0
  | 0x1 => decodeConfig w
  | 0x2 => decodeUpdate w
  | 0x3 => .stop
  | 0x4 => .reserved4
  | 0x5 => .reserved5
  | 0x6 => .reserved6
  | 0x7 => .reserved7
  | 0x8 => .reserved8
  | 0x9 => .reserved9
  | 0xA => .reservedA
  | 0xB => .reservedB
  | 0xC => .reservedC
  | 0xD => .reservedD
  | 0xE => .reservedE
  | _ => .reservedF

/-- The command of a word (R75, R81). -/
def decodeWord (w : CmdWord) : Instr := decodeRow w (opField w).toNat

/-- The OP value of a command (R75). -/
def Instr.op : Instr → BitVec 4
  | .config _ _ _ _ => 0x1#4
  | .update _ _ _ _ => 0x2#4
  | .stop => 0x3#4
  | .reserved0 => 0x0#4
  | .reserved4 => 0x4#4
  | .reserved5 => 0x5#4
  | .reserved6 => 0x6#4
  | .reserved7 => 0x7#4
  | .reserved8 => 0x8#4
  | .reserved9 => 0x9#4
  | .reservedA => 0xA#4
  | .reservedB => 0xB#4
  | .reservedC => 0xC#4
  | .reservedD => 0xD#4
  | .reservedE => 0xE#4
  | .reservedF => 0xF#4

/-- The operand bits `W[95:4]` of a command (R72 to R74), each RSV bit 0 as R77 asks of a host. -/
def Instr.body : Instr → BitVec 92
  | .config chan spin mx my => my ++ mx ++ spin ++ chan ++ 0#4
  | .update cx cy cyaw thr => 0#16 ++ thr ++ cyaw ++ cy ++ cx ++ 0#12
  | .stop => 0#92
  | .reserved0 => 0#92
  | .reserved4 => 0#92
  | .reserved5 => 0#92
  | .reserved6 => 0#92
  | .reserved7 => 0#92
  | .reserved8 => 0#92
  | .reserved9 => 0#92
  | .reservedA => 0#92
  | .reservedB => 0#92
  | .reservedC => 0#92
  | .reservedD => 0#92
  | .reservedE => 0#92
  | .reservedF => 0#92

/-- The command word of a command. -/
def encode (i : Instr) : CmdWord := i.body ++ i.op

/-- The bits a command ignores (RSV of R72 to R74; all of `W[95:4]` for a reserved OP, R76). -/
def Instr.rsvMask : Instr → CmdWord
  | .config _ _ _ _ => 0x0000000000000000000000F0#96
  | .update _ _ _ _ => 0xFFFF0000000000000000FFF0#96
  | .stop => 0xFFFFFFFFFFFFFFFFFFFFFFF0#96
  | .reserved0 => 0xFFFFFFFFFFFFFFFFFFFFFFF0#96
  | .reserved4 => 0xFFFFFFFFFFFFFFFFFFFFFFF0#96
  | .reserved5 => 0xFFFFFFFFFFFFFFFFFFFFFFF0#96
  | .reserved6 => 0xFFFFFFFFFFFFFFFFFFFFFFF0#96
  | .reserved7 => 0xFFFFFFFFFFFFFFFFFFFFFFF0#96
  | .reserved8 => 0xFFFFFFFFFFFFFFFFFFFFFFF0#96
  | .reserved9 => 0xFFFFFFFFFFFFFFFFFFFFFFF0#96
  | .reservedA => 0xFFFFFFFFFFFFFFFFFFFFFFF0#96
  | .reservedB => 0xFFFFFFFFFFFFFFFFFFFFFFF0#96
  | .reservedC => 0xFFFFFFFFFFFFFFFFFFFFFFF0#96
  | .reservedD => 0xFFFFFFFFFFFFFFFFFFFFFFF0#96
  | .reservedE => 0xFFFFFFFFFFFFFFFFFFFFFFF0#96
  | .reservedF => 0xFFFFFFFFFFFFFFFFFFFFFFF0#96

/-- The operands of a CONFIG, and `none` for every other command. -/
def Instr.configOperands? : Instr → Option ConfigOperands
  | .config chan spin mx my => some { chan := chan, spin := spin, mx := mx, my := my }
  | .update _ _ _ _ => none
  | .stop => none
  | .reserved0 => none
  | .reserved4 => none
  | .reserved5 => none
  | .reserved6 => none
  | .reserved7 => none
  | .reserved8 => none
  | .reserved9 => none
  | .reservedA => none
  | .reservedB => none
  | .reservedC => none
  | .reservedD => none
  | .reservedE => none
  | .reservedF => none

/-- The command word read from the bits of a row of spec/opcode_table.json: the low `nbits` bits of `w`, every bit
above them 0; a number that needs more than 96 bits is no command word (R70). -/
def tableWord? (nbits w : Nat) : Option CmdWord :=
  if w % 2 ^ nbits < 2 ^ 96 then some (BitVec.ofNat 96 (w % 2 ^ nbits)) else none

/-- The command the decoder reads from the bits of an opcode-table row. -/
def decodeTableWord (nbits w : Nat) : Option Instr := (tableWord? nbits w).map decodeWord

/-- The little-endian bytes of a command word: byte k is `cmd_word[8k+7:8k]` for k = 0 to 11 (R56). -/
def wordBytes (w : CmdWord) : List Byte := (List.range 12).map fun k => field w (8 * k) 8

/-- Why a serialised command is rejected. R70: every command is exactly 96 bits, so 12 bytes. -/
inductive DecodeError where
  /-- The byte list has `n` bytes, not 12. -/
  | wrongLength (n : Nat)
  deriving DecidableEq, Repr

/-- The value of a little-endian byte list. -/
def bytesValue : List Byte → Nat
  | [] => 0
  | b :: bs => b.toNat + 256 * bytesValue bs

/-- Decoding of a serialised command (R56, R70, R81): total on byte lists, rejecting a wrong length by name. -/
def decodeBytes (bs : List Byte) : Except DecodeError Instr :=
  if bs.length = 12 then .ok (decodeWord (BitVec.ofNat 96 (bytesValue bs))) else .error (.wrongLength bs.length)

/-- The field bits of an integer operand (R82): two's complement of a decimal, or the raw bits. -/
def AsmInt.bits (width : Nat) : AsmInt → BitVec width
  | .dec v => BitVec.ofInt width v
  | .hex raw => BitVec.ofNat width raw

/-- The word of a well-formed line (R72 to R74, R82). -/
def AsmLine.word : AsmLine → CmdWord
  | .config chan spin mx my =>
    encode (.config (chan.bits 8) (spin.bits 16) (mx.pattern?.getD 0) (my.pattern?.getD 0))
  | .update cx cy cyaw thr => encode (.update (cx.bits 16) (cy.bits 16) (cyaw.bits 16) (thr.bits 16))
  | .stop => encode .stop
  | .word96 raw => BitVec.ofNat 96 raw

/-- The assembler on one line (R82): the word, or the error; it never wraps or clamps an operand. -/
def assemble (l : AsmLine) : Except AsmError CmdWord :=
  match l.problem? with
  | none => .ok l.word
  | some e => .error e

end Sys2Proof
end

