-- ==== Sys2Proof/Machine/Operands.lean ====
section
/-! DEFINITION. The pseudocode primitives of 00_scope.md rule R10, the operand readings of 30_encoding.md rules R78 and
R80, and the derived duty constants of rule R7. Every intermediate value is an unbounded integer (R9). -/

namespace Sys2Proof.Machine

/-- `sext_16(v)` (R10): a 16-bit field or register read as signed two's complement. -/
abbrev sext16 (v : Half) : Int := v.toInt

/-- `zext_8(v)` (R10): an 8-bit field read as unsigned. -/
abbrev zext8 (v : Byte) : Int := v.toNat

/-- `wrap16(v)` (R10): the integer in [-32768, 32767] congruent to v modulo 2^16. -/
def wrap16 (v : Int) : Int := Int.bmod v 65536

/-- `v >> n` (R10): the arithmetic right shift, floor(v / 2^n). -/
def shiftRight (v : Int) (n : Nat) : Int := v / 2 ^ n

/-- `clamp(v, lo, hi)` = min(max(v, lo), hi) (R10). -/
def clamp (v lo hi : Int) : Int := min (max v lo) hi

/-- The duty value of a pulse width in microseconds: `pulse >> 3` as 8 bits (R7, R139). -/
def dutyOf (pulse : Int) : Byte := BitVec.ofInt 8 (shiftRight pulse Config.dutyShift)

/-- STOP_DUTY = PULSE_STOP >> 3 (R7). -/
def stopDuty (p : Params) : Byte := dutyOf p.pulseStop

/-- FLOOR_DUTY = PULSE_FLOOR >> 3 (R7). -/
def floorDuty (p : Params) : Byte := dutyOf p.pulseFloor

/-- CEILING_DUTY = PULSE_CEILING >> 3 (R7). -/
def ceilingDuty (p : Params) : Byte := dutyOf p.pulseCeiling

/-- The real value of DEGEN_EPS in units of 2^-149 (R101). A `Params` has a finite one, so the default is never used. -/
def epsUnits (p : Params) : Int := (f32val p.degenEps).getD 0

end Sys2Proof.Machine
end

