-- ==== Sys2Proof/Machine/Normalizer.lean ====
section
/-! DEFINITION. The gain normalizer NORM (40_motor_mixer.md rules R100 to R103).

Positions are integers in units of 2^-149 (Binary32.lean); NORM is unchanged by scaling both components, and DEGEN_EPS
is in the same unit, so the unit does not matter. `truncz(32767 * c / n)` is evaluated by the equivalent integer statement
of R102, over exact integers: no value is rounded (assumption log 6). -/

namespace Sys2Proof.Machine

/-- The search for R102's `k`, one bit at a time from the top: `acc` grows by 2^b while `k^2 * n2 <= 32767^2 * c2` still
holds. -/
def gainSearch (c2 n2 : Nat) : Nat → Nat → Nat
  | 0, acc => acc
  | b + 1, acc =>
    if (acc + 2 ^ b) * (acc + 2 ^ b) * n2 ≤ Config.gainScale * Config.gainScale * c2 then
      gainSearch c2 n2 b (acc + 2 ^ b)
    else gainSearch c2 n2 b acc

/-- `|truncz(32767 * c / n)|`: the largest integer k in [0, 32767] with `k^2 * n2 <= 32767^2 * c^2` (R102), where
`n2 = x^2 + y^2`. -/
def gainMagnitude (c : Int) (n2 : Nat) : Nat := gainSearch (c.natAbs * c.natAbs) n2 15 0

/-- `truncz(32767 * c / n)` (R102): the magnitude with the sign of c, 0 when c = 0. -/
def gainOf (c : Int) (n2 : Nat) : Int :=
  if c < 0 then -(gainMagnitude c n2 : Int) else if c = 0 then 0 else (gainMagnitude c n2 : Int)

/-- The inclusive degeneracy check `|x| + |y| <= eps` (R101). -/
def degenerate (eps x y : Int) : Bool := decide ((x.natAbs : Int) + (y.natAbs : Int) ≤ eps)

/-- NORM(x, y) (R100), with the clamp of R103. -/
def normVec (eps x y : Int) : Int × Int :=
  if degenerate eps x y then (0, 0)
  else
    let n2 := x.natAbs * x.natAbs + y.natAbs * y.natAbs
    (clamp (gainOf x n2) (-32767) 32767, clamp (gainOf y n2) (-32767) 32767)

/-- The gains of a CONFIG's position operands (R106, R108): `none` when either pattern is NONFINITE. -/
def configGains (p : Params) (mx my : F32) : Option (Int × Int) :=
  match f32val mx, f32val my with
  | some x, some y => some (normVec (epsUnits p) x y)
  | none, _ => none
  | some _, none => none

end Sys2Proof.Machine
end

