-- ==== Sys2Proof/Machine/State.lean ====
section
/-! DEFINITION. The state of one MMAC instance (10_state.md), as plain data, and the state after reset (rule R38).

The machine has no memory (R50), no program counter (R21), no register file (R20), no flags beyond CFG_DONE and MODE
(R32) and no exception registers (R180, R184). Fields that are the model's own, not the spec's architectural state, are
marked so. -/

namespace Sys2Proof.Machine

/-- MODE (R28): 0 = Stopped, 1 = Running. -/
inductive Mode where
  | stopped
  | running
  deriving DecidableEq, Repr

/-- One write of the sink port, `SinkWrite(chan, duty)` (R54). -/
structure SinkWrite where
  chan : Byte
  duty : Byte
  deriving DecidableEq, Repr

/-- A CONFIG in progress (R29): the operand latch, and how many clock edges remain until it completes, a count that
R109's timing implies (DEDUCED, log 10). -/
structure ConfigInFlight where
  ops : ConfigOperands
  edgesLeft : Nat
  deriving DecidableEq, Repr

/-- What the host does next to the block in a transactional run (R213, R214). -/
inductive HostInput where
  /-- One edge with `rst` = 1 (R200). -/
  | reset
  /-- A command word, held on the command port until it is accepted (R52, R207). -/
  | command (w : CmdWord)
  deriving DecidableEq, Repr

/-- The input pins sampled at one rising edge of `clk` (R33, R34). -/
structure Pins where
  rst : Bool
  cmdValid : Bool
  cmdWord : CmdWord
  deriving DecidableEq, Repr

/-- The reasons a step can stop with a fault: none. R180: the MMAC raises no exception, trap, fault or error of any
kind. No meaning raises one, which is exact. -/
inductive Fault where
  deriving DecidableEq, Repr

/-- The reasons a step can be refused. -/
inductive Refusal where
  /-- Raised by a rejected arm of exec only; safe. No arm of this model is rejected. -/
  | notModelled (mnemonic : String)
  deriving DecidableEq, Repr

/-- The state of one MMAC instance. -/
structure State where
  /-- GAIN_X, signed Q1.15 (R22). -/
  gainX : Half
  /-- GAIN_Y, signed Q1.15 (R23). -/
  gainY : Half
  /-- SPIN, signed (R24). -/
  spin : Half
  /-- CHAN, unsigned (R25). -/
  chan : Byte
  /-- DUTY, unsigned (R26). -/
  duty : Byte
  /-- CFG_DONE (R27). -/
  cfgDone : Bool
  /-- MODE (R28). -/
  mode : Mode
  /-- The hidden CONFIG-in-progress state (R29): `some` exactly while BUSY = 1, with the operand latch. -/
  latch : Option ConfigInFlight
  /-- The sink port in the current cycle (R35): `some` while `sink_we` = 1, with `sink_chan` and `sink_duty`, which mean
  nothing while `sink_we` = 0. -/
  sinkPort : Option SinkWrite
  /-- The command index (R21), the spec's model bookkeeping: commands accepted since the last reset. -/
  cmdIndex : Nat
  /-- The ordered list of sink writes of the run, oldest first (R214): the run's observation, the model's own field. -/
  sinkLog : List SinkWrite
  /-- What the host does next, first item first: the model's own field, the input of a transactional run (R214). -/
  inputs : List HostInput
  /-- The instance's parameters (R6). Not state (R31): carried so that a step can read them, written by nothing. -/
  params : Params
  deriving DecidableEq, Repr

/-- BUSY (R29), which is 1 exactly while the operand latch holds a CONFIG (log 8). -/
def State.busy (s : State) : Bool := s.latch.isSome

/-- The instance with parameters `p` right after reset (R38, R200), with no input given yet and no sink write made. -/
def State.resetWith (p : Params) : State where
  gainX := 0
  gainY := 0
  spin := 0
  chan := 0
  duty := stopDuty p
  cfgDone := false
  mode := .stopped
  latch := none
  sinkPort := none
  cmdIndex := 0
  sinkLog := []
  inputs := []
  params := p

/-- The reset state of the reference instance (R6; DESIGN CHOICE, log 1: the spec leaves the parameters OPEN). -/
def State.reset : State := State.resetWith Config.reference

end Sys2Proof.Machine
end

