-- ==== Sys2Proof/Machine/Flags.lean ====
section
/-! DEFINITION. The two status bits CFG_DONE and MODE as the ports show them. The MMAC has no flags, condition codes or
error bits beyond these, and no command computes a flag as a side effect (10_state.md rule R32), so this file holds no
flag computation. -/

namespace Sys2Proof.Machine

/-- CFG_DONE as one bit (R27). -/
def cfgDoneBit (s : State) : BitVec 1 := BitVec.ofBool s.cfgDone

/-- MODE as one bit: 0 = Stopped, 1 = Running (R28). -/
def modeBit (s : State) : BitVec 1 :=
  match s.mode with
  | .stopped => 0#1
  | .running => 1#1

end Sys2Proof.Machine
end

