-- ==== Sys2Proof/Machine/Ops.lean ====
section
/-! DEFINITION. The named operations over the state: the sink write, the output registers, the motor's configuration,
reset, the acceptance of a command, and the ports.

The machine has no memory, and no exception is taken or returned from (60_exceptions.md rules R180, R184, R185), so there
is no operation for either. -/

namespace Sys2Proof.Machine

/-- `SinkWrite(chan, duty)` (R54): drives the sink port in the cycle that follows and is recorded as the run's next
sink write. -/
def State.sinkWrite (s : State) (chan duty : Byte) : State :=
  { s with
    sinkPort := some { chan := chan, duty := duty }
    sinkLog := s.sinkLog ++ [{ chan := chan, duty := duty }] }

/-- The output half of a performed command (R106, R140, R147): MODE and DUTY are written and the duty is sent to the
channel. -/
def State.drive (s : State) (mode : Mode) (chan duty : Byte) : State :=
  ({ s with mode := mode, duty := duty }).sinkWrite chan duty

/-- The configuration half of a performed CONFIG (R106): the gains, SPIN and CHAN are stored, CFG_DONE is set, and BUSY
clears with the latch (R37, R109). -/
def State.setMotor (s : State) (gx gy : Int) (spin : Half) (chan : Byte) : State :=
  { s with
    gainX := BitVec.ofInt 16 gx
    gainY := BitVec.ofInt 16 gy
    spin := spin
    chan := chan
    cfgDone := true
    latch := none }

/-- An edge with `rst` = 1 (R200 to R203): every register takes its reset value whatever it was, a CONFIG in progress is
discarded, the command index restarts at 0 and no sink write is made. The parameters (R31), the writes already driven
(R201) and what the host does next stay. -/
def State.applyReset (s : State) : State :=
  { State.resetWith s.params with sinkLog := s.sinkLog, inputs := s.inputs }

/-- The end of the sink port's cycle: `sink_we` is 1 for exactly one cycle per sink write (R35). -/
def State.endCycle (s : State) : State := { s with sinkPort := none }

/-- The acceptance of a command (R21, R52): the cycle ends and the command index grows by 1. -/
def State.accept (s : State) : State := { s.endCycle with cmdIndex := s.cmdIndex + 1 }

/-- The host's remaining inputs, once its first one has been taken. -/
def State.setInputs (s : State) (rest : List HostInput) : State := { s with inputs := rest }

/-- `cmd_ready` (R34, R208): 0 exactly while `rst` = 1 and while BUSY = 1. -/
def State.cmdReady (s : State) (rst : Bool) : Bool := !rst && !s.busy

/-- `sink_we` (R35). -/
def State.sinkWe (s : State) : Bool := s.sinkPort.isSome

end Sys2Proof.Machine
end

