-- ==== Sys2Proof/Machine/MotorMixer.lean ====
section
/-! DEFINITION. The CONFIG command (40_motor_mixer.md rules R106 to R113). -/

namespace Sys2Proof.Machine

/-- The writes of a performed CONFIG (R106, R111): the motor's configuration, then Stopped with the pre-set sink write of
STOP_DUTY on the channel just stored. -/
def State.performConfig (s : State) (gx gy : Int) (spin : Half) (chan : Byte) : State :=
  (s.setMotor gx gy spin chan).drive .stopped chan (stopDuty s.params)

/-- The gains a CONFIG will store if it is performed: CFG_DONE is checked first, then finiteness (R183); `none` when it
has no effect (R107, R108). -/
def State.configResult? (s : State) (mx my : F32) : Option (Int × Int) :=
  if s.cfgDone then none else configGains s.params mx my

/-- CONFIG (R106); R107 and R108 leave everything as it was. -/
def execConfig (chan : Byte) (spin : Half) (mx my : F32) (s : State) : Host.Outcome State Fault Refusal :=
  match s.configResult? mx my with
  | some g => .next (s.performConfig g.1 g.2 spin chan)
  | none => .next s

/-- The completion of the CONFIG in progress from its operand latch (R109): all of its register writes together, its sink
write in the cycle that follows. A latch that holds a CONFIG that would not be performed is just emptied; no such latch is
ever filled (R29). -/
def State.finishConfig (s : State) (c : ConfigInFlight) : State :=
  match s.configResult? c.ops.mx c.ops.my with
  | some g => s.performConfig g.1 g.2 c.ops.spin c.ops.chan
  | none => { s with latch := none }

end Sys2Proof.Machine
end

