-- ==== Sys2Proof/Machine/Mixer.lean ====
section
/-! DEFINITION. The mixer MAC datapath of UPDATE (41_motor_update.md rules R130 to R139): two high-half multiplies, the
yaw term, the exact accumulator, the saturation and the duty scaling. -/

namespace Sys2Proof.Machine

/-- MULH(a, b) = (a * b) >> 16 (R130). -/
def mulh (a b : Int) : Int := shiftRight (a * b) Config.mulShift

/-- DBL(c) = wrap16(2 * c) (R132). -/
def dbl (c : Int) : Int := wrap16 (2 * c)

/-- A positional contribution, PX or PY: MULH(DBL(c), GAIN) (R133). -/
def contribution (c gain : Half) : Int := mulh (dbl (sext16 c)) (sext16 gain)

/-- The yaw term YAWT (R134, R135). -/
def yawTerm (m : YawMode) (spin cyaw : Half) : Int :=
  match m with
  | .sign => if 0 < sext16 spin then sext16 cyaw else -sext16 cyaw
  | .multiply => sext16 cyaw * sext16 spin

/-- ACC = thr + PX + PY + YAWT, exact (R136). -/
def accumulate (m : YawMode) (gx gy spin cx cy cyaw thr : Half) : Int :=
  sext16 thr + contribution cx gx + contribution cy gy + yawTerm m spin cyaw

/-- SAT = clamp(ACC, PULSE_FLOOR, PULSE_CEILING) (R138). -/
def saturate (p : Params) (acc : Int) : Int := clamp acc p.pulseFloor p.pulseCeiling

/-- The duty value D of an UPDATE (R136 to R139). -/
def mixDuty (p : Params) (gx gy spin cx cy cyaw thr : Half) : Byte :=
  dutyOf (saturate p (accumulate p.yawMode gx gy spin cx cy cyaw thr))

end Sys2Proof.Machine
end

