-- ==== Sys2Proof/Machine/MotorUpdate.lean ====
section
/-! DEFINITION. The UPDATE and STOP commands (41_motor_update.md rules R140 to R150). -/

namespace Sys2Proof.Machine

/-- The duty value UPDATE computes from the state's registers and parameters (R140). -/
def State.mix (s : State) (cx cy cyaw thr : Half) : Byte :=
  mixDuty s.params s.gainX s.gainY s.spin cx cy cyaw thr

/-- UPDATE (R140); while unconfigured it has no effect (R141). -/
def execUpdate (cx cy cyaw thr : Half) (s : State) : Host.Outcome State Fault Refusal :=
  if s.cfgDone then .next (s.drive .running s.chan (s.mix cx cy cyaw thr)) else .next s

/-- STOP (R147); while unconfigured it has no effect (R148). -/
def execStop (s : State) : Host.Outcome State Fault Refusal :=
  if s.cfgDone then .next (s.drive .stopped s.chan (stopDuty s.params)) else .next s

end Sys2Proof.Machine
end

