-- ==== Sys2Proof/Machine/Reserved.lean ====
section
/-! DEFINITION. The reserved opcodes (30_encoding.md rule R76): each is accepted like any command and then has no effect;
it writes no register and makes no sink write. Its handshake and its count in the command index belong to the acceptance
of a command (`State.accept`). -/

namespace Sys2Proof.Machine

/-- The effect of a command that has none (R76, R181). -/
def State.noEffect (s : State) : Host.Outcome State Fault Refusal := .next s

/-- RESERVED_0: OP = 0x0, no effect (R76). -/
def execReserved0 (s : State) : Host.Outcome State Fault Refusal := s.noEffect

/-- RESERVED_4: OP = 0x4, no effect (R76). -/
def execReserved4 (s : State) : Host.Outcome State Fault Refusal := s.noEffect

/-- RESERVED_5: OP = 0x5, no effect (R76). -/
def execReserved5 (s : State) : Host.Outcome State Fault Refusal := s.noEffect

/-- RESERVED_6: OP = 0x6, no effect (R76). -/
def execReserved6 (s : State) : Host.Outcome State Fault Refusal := s.noEffect

/-- RESERVED_7: OP = 0x7, no effect (R76). -/
def execReserved7 (s : State) : Host.Outcome State Fault Refusal := s.noEffect

/-- RESERVED_8: OP = 0x8, no effect (R76). -/
def execReserved8 (s : State) : Host.Outcome State Fault Refusal := s.noEffect

/-- RESERVED_9: OP = 0x9, no effect (R76). -/
def execReserved9 (s : State) : Host.Outcome State Fault Refusal := s.noEffect

/-- RESERVED_A: OP = 0xA, no effect (R76). -/
def execReservedA (s : State) : Host.Outcome State Fault Refusal := s.noEffect

/-- RESERVED_B: OP = 0xB, no effect (R76). -/
def execReservedB (s : State) : Host.Outcome State Fault Refusal := s.noEffect

/-- RESERVED_C: OP = 0xC, no effect (R76). -/
def execReservedC (s : State) : Host.Outcome State Fault Refusal := s.noEffect

/-- RESERVED_D: OP = 0xD, no effect (R76). -/
def execReservedD (s : State) : Host.Outcome State Fault Refusal := s.noEffect

/-- RESERVED_E: OP = 0xE, no effect (R76). -/
def execReservedE (s : State) : Host.Outcome State Fault Refusal := s.noEffect

/-- RESERVED_F: OP = 0xF, no effect (R76). -/
def execReservedF (s : State) : Host.Outcome State Fault Refusal := s.noEffect

end Sys2Proof.Machine
end

