-- ==== Sys2Proof/Machine/Step.lean ====
section
/-! DEFINITION. One transactional step (00_scope.md rule R14): one accepted command is one atomic step.

The host's next input decides. A reset edge wins over everything (R183). A CONFIG in progress, which only the cycle level
(Cycle.lean) can leave behind, completes before the next command is accepted (R52, R208). Otherwise the first command word
is accepted, decoded and executed. With no input the block idles: it never changes its output by itself (R211). -/

namespace Sys2Proof.Machine

/-- One step of the machine. -/
def step (s : State) : Host.Outcome State Fault Refusal :=
  match s.inputs, s.latch with
  | .reset :: rest, _ => .next (s.setInputs rest).applyReset
  | .command _ :: _, some c => .next (s.endCycle.finishConfig c)
  | [], some c => .next (s.endCycle.finishConfig c)
  | .command w :: rest, none => exec (decodeWord w) (s.setInputs rest).accept
  | [], none => .next s.endCycle

/-- The state in which the host presents the command word of an opcode-table row next. The MMAC fetches no stored
instruction (R21, R61): the word is put first in the host's inputs, and no CONFIG is in progress, so that the very next
step accepts it (log 9). A number that is no 96-bit word is presented as its low 96 bits. -/
def State.withFetchWord (s : State) (nbits w : Nat) : State :=
  { s with inputs := .command (BitVec.ofNat 96 (w % 2 ^ nbits)) :: s.inputs, latch := none }

end Sys2Proof.Machine
end

