-- ==== Sys2Proof/Machine/AsmText.lean ====
section
/-! DEFINITION. The assembler's text: reading a line of 30_encoding.md rule R82 (mnemonics, operands, literals, comments)
into an `AsmLine`. The spec gives the forms and not every lexical detail; the details chosen here are in assumption
log 11. No step of the machine depends on this file. -/

namespace Sys2Proof.Machine

/-- A character that separates tokens. -/
def isBlank (c : Char) : Bool := c == ' ' || c == '\t' || c == '\r'

/-- A token without the blanks around it. -/
def trimBlanks (cs : List Char) : List Char :=
  ((cs.dropWhile isBlank).reverse.dropWhile isBlank).reverse

/-- The value of a digit, if it is one in the given base (10 or 16). -/
def digitValue? (base : Nat) (c : Char) : Option Nat :=
  let v :=
    if 48 ≤ c.toNat ∧ c.toNat ≤ 57 then c.toNat - 48
    else if 97 ≤ c.toNat ∧ c.toNat ≤ 102 then c.toNat - 87
    else if 65 ≤ c.toNat ∧ c.toNat ≤ 70 then c.toNat - 55
    else base
  if v < base then some v else none

/-- The number a run of digits continues. -/
def readDigits? (base : Nat) : List Char → Nat → Option Nat
  | [], acc => some acc
  | c :: cs, acc =>
    match digitValue? base c with
    | some d => readDigits? base cs (acc * base + d)
    | none => none

/-- A nonempty run of digits. -/
def readNat? (base : Nat) (cs : List Char) : Option Nat :=
  if cs.isEmpty then none else readDigits? base cs 0

/-- An integer operand: decimal with an optional leading `-`, or `0x` and raw bits (R82). -/
def readInt? : List Char → Option AsmInt
  | '0' :: 'x' :: ds => (readNat? 16 ds).map .hex
  | '-' :: ds => (readNat? 10 ds).map fun n => .dec (-(n : Int))
  | ds => (readNat? 10 ds).map fun n => .dec n

/-- The pieces of a list of characters between the separators that satisfy `p`. -/
def splitAtSep (p : Char → Bool) : List Char → List (List Char)
  | [] => [[]]
  | c :: cs =>
    match splitAtSep p cs with
    | [] => [[c]]
    | piece :: pieces => if p c then [] :: piece :: pieces else (c :: piece) :: pieces

/-- The exponent of a decimal real literal. -/
def readExponent? : List Char → Option Int
  | '-' :: ds => (readNat? 10 ds).map fun n => -(n : Int)
  | '+' :: ds => (readNat? 10 ds).map fun n => n
  | ds => (readNat? 10 ds).map fun n => n

/-- The digits of a decimal real literal, whole part and fraction: the digits as one number, and how many of them
follow the point. -/
def readMantissa? (cs : List Char) : Option (Nat × Nat) :=
  match splitAtSep (· == '.') cs with
  | [whole] => (readNat? 10 whole).map fun n => (n, 0)
  | [whole, frac] =>
    match readNat? 10 whole, readNat? 10 frac with
    | some _, some _ => (readNat? 10 (whole ++ frac)).map fun n => (n, frac.length)
    | _, _ => none
  | _ => none

/-- A decimal real literal without its sign. -/
def readDecimal? (neg : Bool) (cs : List Char) : Option AsmReal :=
  match splitAtSep (fun c => c == 'e' || c == 'E') cs with
  | [m] => (readMantissa? m).map fun (n, k) => .dec neg n (-(k : Int))
  | [m, e] =>
    match readMantissa? m, readExponent? e with
    | some (n, k), some x => some (.dec neg n (x - k))
    | _, _ => none
  | _ => none

/-- A position operand: a decimal real literal, or `0f` and exactly eight hexadecimal digits (R82). -/
def readReal? : List Char → Option AsmReal
  | '0' :: 'f' :: ds => if ds.length = 8 then (readNat? 16 ds).map fun n => .raw (BitVec.ofNat 32 n) else none
  | '-' :: cs => readDecimal? true cs
  | cs => readDecimal? false cs

/-- The operand of `.word96`: up to 24 hexadecimal digits, with or without `0x` (R82). -/
def readWord96? (cs : List Char) : Option Nat :=
  let ds := match cs with
    | '0' :: 'x' :: ds => ds
    | ds => ds
  if ds.length ≤ 24 then readNat? 16 ds else none

/-- A mnemonic with its operands (R82). -/
def readCommand? (mnemonic : List Char) (operands : List (List Char)) : Option AsmLine :=
  if mnemonic = "CONFIG".toList then
    match operands with
    | [chan, spin, mx, my] =>
      match readInt? chan, readInt? spin, readReal? mx, readReal? my with
      | some c, some s, some x, some y => some (.config c s x y)
      | _, _, _, _ => none
    | _ => none
  else if mnemonic = "UPDATE".toList then
    match operands with
    | [cx, cy, cyaw, thr] =>
      match readInt? cx, readInt? cy, readInt? cyaw, readInt? thr with
      | some a, some b, some c, some d => some (.update a b c d)
      | _, _, _, _ => none
    | _ => none
  else if mnemonic = "STOP".toList then
    match operands with
    | [[]] => some .stop
    | _ => none
  else if mnemonic = ".word96".toList then
    match operands with
    | [w] => (readWord96? w).map .word96
    | _ => none
  else none

/-- One line of text (R82): `none` inside for a line with nothing but blanks and a comment. -/
def readLine (cs : List Char) : Except AsmError (Option AsmLine) :=
  let body := trimBlanks (cs.takeWhile (· != ';'))
  if body.isEmpty then .ok none
  else
    let mnemonic := body.takeWhile fun c => !isBlank c
    let operands := (splitAtSep (· == ',') (body.dropWhile fun c => !isBlank c)).map trimBlanks
    match readCommand? mnemonic operands with
    | some l => .ok (some l)
    | none => .error .badLine

/-- The words of a program, one command a line (R82); the first bad line is the error. -/
def assembleLines : List (List Char) → Except AsmError (List CmdWord)
  | [] => .ok []
  | cs :: rest =>
    match readLine cs with
    | .error e => .error e
    | .ok none => assembleLines rest
    | .ok (some l) =>
      match assemble l, assembleLines rest with
      | .ok w, .ok ws => .ok (w :: ws)
      | .error e, _ => .error e
      | .ok _, .error e => .error e

/-- The words of a program text. -/
def assembleText (text : String) : Except AsmError (List CmdWord) :=
  assembleLines (splitAtSep (· == '\n') text.toList)

end Sys2Proof.Machine
end

