-- ==== Sys2Proof/Machine/Ports.lean ====
section
/-! DEFINITION. The observation ports (10_state.md rule R36): what a host or a test can read of the state. -/

namespace Sys2Proof.Machine

/-- The observation outputs of R36, each in two's complement where signed. -/
structure Observation where
  /-- `obs_gain_x[15:0]` -/
  gainX : Half
  /-- `obs_gain_y[15:0]` -/
  gainY : Half
  /-- `obs_spin[15:0]` -/
  spin : Half
  /-- `obs_chan[7:0]` -/
  chan : Byte
  /-- `obs_duty[7:0]` -/
  duty : Byte
  /-- `obs_cfg_done` -/
  cfgDone : BitVec 1
  /-- `obs_mode` -/
  mode : BitVec 1
  deriving DecidableEq, Repr

/-- The observation ports: level outputs driven from the registers; reading them has no effect (R36, R58). -/
def State.observe (s : State) : Observation where
  gainX := s.gainX
  gainY := s.gainY
  spin := s.spin
  chan := s.chan
  duty := s.duty
  cfgDone := cfgDoneBit s
  mode := modeBit s

end Sys2Proof.Machine
end

