-- ==== Sys2Proof/Machine/Cycle.lean ====
section
/-! DEFINITION. The cycle level: one rising edge of `clk` (10_state.md rules R33 to R35, 20_memory.md rule R52,
40_motor_mixer.md rule R109, 70_reset_and_hazards.md rules R200 to R210), over the same state. The transactional `step`
is the architecture (R14); this file holds the ready/valid handshake, BUSY, CONFIG_LATENCY and the sink strobe, which
an implementation adds. -/

namespace Sys2Proof.Machine

/-- The acceptance of a CONFIG at an edge (R109): one that will be performed sets BUSY and fills the latch when
CONFIG_LATENCY > 1; with CONFIG_LATENCY = 1, or when it has no effect (R107, R108), it is done at the accepting edge. -/
def State.beginConfig (s : State) (ops : ConfigOperands) : Host.Outcome State Fault Refusal :=
  if (s.configResult? ops.mx ops.my).isSome && decide (1 < s.params.configLatency) then
    .next { s with latch := some { ops := ops, edgesLeft := s.params.configLatency - 1 } }
  else execConfig ops.chan ops.spin ops.mx ops.my s

/-- What an accepted command does at its accepting edge (R109, R144, R149). -/
def State.executeAtEdge (s : State) (i : Instr) : Host.Outcome State Fault Refusal :=
  match i.configOperands? with
  | some ops => s.beginConfig ops
  | none => exec i s

/-- One edge of a CONFIG in progress (R109): it completes at the last one. -/
def State.advanceConfig (s : State) (c : ConfigInFlight) : State :=
  if c.edgesLeft ≤ 1 then s.finishConfig c
  else { s with latch := some { c with edgesLeft := c.edgesLeft - 1 } }

/-- One rising edge of `clk` with the given input pins. Reset wins (R183, R201); a CONFIG in progress advances and
`cmd_ready` = 0 lets no command in (R52, R208); otherwise a presented command is accepted (R52). -/
def clockEdge (p : Pins) (s : State) : Host.Outcome State Fault Refusal :=
  if p.rst then .next s.applyReset
  else
    match s.latch with
    | some c => .next (s.endCycle.advanceConfig c)
    | none => if p.cmdValid then s.accept.executeAtEdge (decodeWord p.cmdWord) else .next s.endCycle

/-- A sequence of edges, one after another. -/
def runEdges : List Pins → State → Host.Outcome State Fault Refusal
  | [], s => .next s
  | p :: ps, s =>
    match clockEdge p s with
    | .next t => runEdges ps t
    | .fault r => .fault r
    | .refused r => .refused r

end Sys2Proof.Machine
end

