-- ==== Sys2Proof/Safety.lean ====
section
/-! DEFINITION. What claims call a good state: the invariants of 10_state.md rule R39 and the safety of the sink's
stream ("must never produce an out-of-range or glitching pulse", 00_scope.md rule R4). -/

namespace Sys2Proof.Machine

/-- A duty value the MMAC may send: STOP_DUTY, or one in [FLOOR_DUTY, CEILING_DUTY] (R26, R143). -/
def legalDuty (p : Params) (d : Byte) : Prop :=
  d = stopDuty p ∨ (floorDuty p ≤ d ∧ d ≤ ceilingDuty p)

/-- First invariant of R39: an unconfigured block holds its reset values. -/
def State.unconfiguredAtReset (s : State) : Prop :=
  s.cfgDone = false →
    s.gainX = 0 ∧ s.gainY = 0 ∧ s.spin = 0 ∧ s.chan = 0 ∧ s.mode = .stopped ∧ s.duty = stopDuty s.params

/-- Second invariant of R39: the gains lie in [-32767, 32767]. -/
def State.gainsInRange (s : State) : Prop :=
  -32767 ≤ s.gainX.toInt ∧ s.gainX.toInt ≤ 32767 ∧ -32767 ≤ s.gainY.toInt ∧ s.gainY.toInt ≤ 32767

/-- Third and fourth invariants of R39: DUTY agrees with MODE. -/
def State.dutyMatchesMode (s : State) : Prop :=
  match s.mode with
  | .stopped => s.duty = stopDuty s.params
  | .running => floorDuty s.params ≤ s.duty ∧ s.duty ≤ ceilingDuty s.params

/-- The latch holds only a CONFIG that will be performed, with at most CONFIG_LATENCY - 1 edges to go (R29, R109). -/
def State.latchSound (s : State) : Prop :=
  ∀ c, s.latch = some c →
    (s.configResult? c.ops.mx c.ops.my).isSome = true ∧ 1 ≤ c.edgesLeft ∧ c.edgesLeft + 1 ≤ s.params.configLatency

/-- Every sink write of the run carries a legal duty (R4, R143). -/
def State.sinkSafe (s : State) : Prop :=
  ∀ w ∈ s.sinkLog, legalDuty s.params w.duty

/-- The invariant of the machine: R39 with the latch and the sink stream. -/
structure State.Inv (s : State) : Prop where
  unconfigured : s.unconfiguredAtReset
  gains : s.gainsInRange
  duty : s.dutyMatchesMode
  latch : s.latchSound
  sink : s.sinkSafe

end Sys2Proof.Machine
end

