-- ==== Sys2Proof/Certificates/Slice0/Obligations.lean ====
section
/-! DEFINITION. The statements about the MMAC for the provers, each from the numbered rules of spec/. Nothing is proved
here. Where a statement computes a value it spells the rule's own arithmetic out over integers or reals, and not the
model's functions, so that it can disagree with them. -/

open Sys2Proof
open Sys2Proof.Machine

/-! ## Encoding -/

/-- The encoding examples of R85 (30_encoding.md), and four rows of 95_test_vectors.md section 2. -/
def Obligations.DecodeOfSpecExamples : Prop :=
  decodeWord 0x000000003F80000000010301#96 = .config 3 1 0x3F800000 0 ∧
  decodeWord 0x3F800000BF800000FFFF0001#96 = .config 0 (-1) 0xBF800000 0x3F800000 ∧
  decodeWord 0x000005DC0032000000640002#96 = .update 100 0 50 1500 ∧
  decodeWord 0x000003E8FFCE0000FF9C0002#96 = .update (-100) 0 (-50) 1000 ∧
  decodeWord 0x000000000000000000000003#96 = .stop ∧
  decodeWord 0xFFFF05DC001E00640064FFF2#96 = .update 100 100 30 1500 ∧
  decodeWord 0x000005DC0032000000640004#96 = .reserved4 ∧
  decodeWord 0x000000000000000000000000#96 = .reserved0 ∧
  decodeWord 0xFFFFFFFFFFFFFFFFFFFFFFFF#96 = .reservedF

/-- R75 with R71: each word matches exactly one row of the opcode map, `(W AND mask) = match` with the mask 0xF, and is
that row's command. -/
def Obligations.OpcodeMapPartitionsAllWords : Prop :=
  ∀ w : CmdWord,
    (∃ v : Nat, v < 16 ∧ w &&& 0xF#96 = BitVec.ofNat 96 v) ∧
    (w &&& 0xF#96 = 0x0#96 ↔ decodeWord w = .reserved0) ∧
    (w &&& 0xF#96 = 0x1#96 ↔ ∃ chan spin mx my, decodeWord w = .config chan spin mx my) ∧
    (w &&& 0xF#96 = 0x2#96 ↔ ∃ cx cy cyaw thr, decodeWord w = .update cx cy cyaw thr) ∧
    (w &&& 0xF#96 = 0x3#96 ↔ decodeWord w = .stop) ∧
    (w &&& 0xF#96 = 0x4#96 ↔ decodeWord w = .reserved4) ∧
    (w &&& 0xF#96 = 0x5#96 ↔ decodeWord w = .reserved5) ∧
    (w &&& 0xF#96 = 0x6#96 ↔ decodeWord w = .reserved6) ∧
    (w &&& 0xF#96 = 0x7#96 ↔ decodeWord w = .reserved7) ∧
    (w &&& 0xF#96 = 0x8#96 ↔ decodeWord w = .reserved8) ∧
    (w &&& 0xF#96 = 0x9#96 ↔ decodeWord w = .reserved9) ∧
    (w &&& 0xF#96 = 0xA#96 ↔ decodeWord w = .reservedA) ∧
    (w &&& 0xF#96 = 0xB#96 ↔ decodeWord w = .reservedB) ∧
    (w &&& 0xF#96 = 0xC#96 ↔ decodeWord w = .reservedC) ∧
    (w &&& 0xF#96 = 0xD#96 ↔ decodeWord w = .reservedD) ∧
    (w &&& 0xF#96 = 0xE#96 ↔ decodeWord w = .reservedE) ∧
    (w &&& 0xF#96 = 0xF#96 ↔ decodeWord w = .reservedF)

/-- R72, R73, R74: every operand is the slice of the word that the format tables give, as number arithmetic; the RSV bits
take no part. -/
def Obligations.OperandFieldsSitAtTheirBits : Prop :=
  ∀ w : CmdWord,
    (w.toNat % 16 = 1 →
      decodeWord w = .config (BitVec.ofNat 8 (w.toNat / 2 ^ 8)) (BitVec.ofNat 16 (w.toNat / 2 ^ 16))
        (BitVec.ofNat 32 (w.toNat / 2 ^ 32)) (BitVec.ofNat 32 (w.toNat / 2 ^ 64))) ∧
    (w.toNat % 16 = 2 →
      decodeWord w = .update (BitVec.ofNat 16 (w.toNat / 2 ^ 16)) (BitVec.ofNat 16 (w.toNat / 2 ^ 32))
        (BitVec.ofNat 16 (w.toNat / 2 ^ 48)) (BitVec.ofNat 16 (w.toNat / 2 ^ 64))) ∧
    (w.toNat % 16 = 3 → decodeWord w = .stop)

/-- R78 and R80: the signed operands are read as 16-bit two's complement and the channel as 8-bit unsigned, from the
slices the rules name. -/
def Obligations.OperandsAreReadSignedOrUnsigned : Prop :=
  ∀ w : CmdWord,
    let s16 := fun lo : Nat =>
      (if w.toNat / 2 ^ lo % 65536 < 32768 then ((w.toNat / 2 ^ lo % 65536 : Nat) : Int)
        else ((w.toNat / 2 ^ lo % 65536 : Nat) : Int) - 65536)
    (w.toNat % 16 = 1 → ∃ chan spin mx my, decodeWord w = .config chan spin mx my ∧
      sext16 spin = s16 16 ∧ zext8 chan = ((w.toNat / 2 ^ 8 % 256 : Nat) : Int)) ∧
    (w.toNat % 16 = 2 → ∃ cx cy cyaw thr, decodeWord w = .update cx cy cyaw thr ∧
      sext16 cx = s16 16 ∧ sext16 cy = s16 32 ∧ sext16 cyaw = s16 48 ∧ sext16 thr = s16 64)

/-- Decode after encode gives the command back, for every command and every operand value. -/
def Obligations.DecodeInvertsEncode : Prop :=
  ∀ i : Instr, decodeWord (encode i) = i

/-- Encode after decode gives the word back with its ignored bits (R72 to R74, R77; all of W[95:4] under a reserved OP)
cleared. -/
def Obligations.EncodeInvertsDecodeUpToIgnoredBits : Prop :=
  ∀ w : CmdWord,
    encode (decodeWord w) =
      w &&& (if w.toNat % 16 = 1 then 0xFFFFFFFFFFFFFFFFFFFFFF0F#96
        else if w.toNat % 16 = 2 then 0x0000FFFFFFFFFFFFFFFF000F#96
        else 0x00000000000000000000000F#96)

/-- R77: two words of one command that differ only in RSV bits execute identically, when a step accepts them and at
every clock edge. -/
def Obligations.ReservedBitsAreIgnored : Prop :=
  ∀ (w w' : CmdWord),
    (w &&& 0xF#96 = 0x1#96 ∧ (w ^^^ w') &&& ~~~ 0x0000000000000000000000F0#96 = 0#96) ∨
    (w &&& 0xF#96 = 0x2#96 ∧ (w ^^^ w') &&& ~~~ 0xFFFF0000000000000000FFF0#96 = 0#96) ∨
    (w &&& 0xF#96 = 0x3#96 ∧ (w ^^^ w') &&& ~~~ 0xFFFFFFFFFFFFFFFFFFFFFFF0#96 = 0#96) →
    (∀ (s : State) (rest : List HostInput), s.latch = none →
      step { s with inputs := .command w :: rest } = step { s with inputs := .command w' :: rest }) ∧
    (∀ (s : State) (rst valid : Bool), clockEdge ⟨rst, valid, w⟩ s = clockEdge ⟨rst, valid, w'⟩ s)

/-- The serialised form of R56: byte k is `cmd_word[8k+7:8k]`, and decoding the 12 bytes decodes the word; a list of
another length is rejected (the model's choice, log 12). -/
def Obligations.SerialisedBytesAreLittleEndian : Prop :=
  (∀ (w : CmdWord) (k : Nat), k < 12 → (wordBytes w)[k]? = some (BitVec.ofNat 8 (w.toNat / 2 ^ (8 * k)))) ∧
  (∀ w : CmdWord, (wordBytes w).length = 12 ∧ decodeBytes (wordBytes w) = .ok (decodeWord w)) ∧
  (∀ bs : List Byte, bs.length ≠ 12 → decodeBytes bs = .error (.wrongLength bs.length))

/-! ## The step -/

/-- A step runs the decoded command (R14, R53): with no CONFIG in progress, the first command word is accepted and the
step is exec of its decoding, around which the step takes the input away, counts the command (R21) and ends the sink
port's cycle (R35). The list of inputs is the model's own (log 3). The second clause, on the word that withFetchWord
presents, is the model's choice (log 9): withFetchWord empties the CONFIG latch, also in a state with a CONFIG in progress,
where R52 and R208 let no command in. -/
def Obligations.StepRunsTheDecodedCommand : Prop :=
  (∀ (s : State) (w : CmdWord) (rest : List HostInput), s.latch = none → s.inputs = .command w :: rest →
    step s = exec (decodeWord w) { s with inputs := rest, sinkPort := none, cmdIndex := s.cmdIndex + 1 }) ∧
  (∀ (s : State) (w : CmdWord),
    step (s.withFetchWord 96 w.toNat) =
      exec (decodeWord w) { s with latch := none, sinkPort := none, cmdIndex := s.cmdIndex + 1 })

/-- R211, first sentence: without commands the block changes nothing. Only the one-cycle sink strobe ends (R35). -/
def Obligations.WithoutInputNothingChanges : Prop :=
  (∀ s : State, s.latch = none → s.inputs = [] → step s = .next { s with sinkPort := none }) ∧
  (∀ (s : State) (w : CmdWord), s.latch = none → clockEdge ⟨false, false, w⟩ s = .next { s with sinkPort := none })

/-- R180: nothing ever faults or is refused: every step and every clock edge answers a next state. -/
def Obligations.EveryStepAnswersANextState : Prop :=
  ∀ s : State, (∃ t, step s = .next t) ∧ (∀ p : Pins, ∃ t, clockEdge p s = .next t)

/-- R21: the command index starts at 0 at reset and grows by 1 on every accepted command, performed or not, and no
meaning reads or writes it. -/
def Obligations.CommandIndexCountsAcceptedCommands : Prop :=
  (∀ p : Params, (State.resetWith p).cmdIndex = 0) ∧
  (∀ (s t : State) (rest : List HostInput), s.inputs = .reset :: rest → step s = .next t → t.cmdIndex = 0) ∧
  (∀ (s t : State) (w : CmdWord) (rest : List HostInput), s.latch = none → s.inputs = .command w :: rest →
    step s = .next t → t.cmdIndex = s.cmdIndex + 1) ∧
  (∀ (i : Instr) (s t : State) (n : Nat), exec i s = .next t →
    exec i { s with cmdIndex := n } = .next { t with cmdIndex := n })

/-! ## CONFIG -/

/-- R106, R110, R111: CONFIG's pseudocode. A performed CONFIG completes; it stores the gains of NORM, the whole spin and
the channel, sets CFG_DONE, enters Stopped with DUTY = STOP_DUTY, makes exactly one sink write (chan, STOP_DUTY), and
leaves everything else alone. A CONFIG that is not performed completes with no effect. -/
def Obligations.ConfigPerformed : Prop :=
  ∀ (s : State) (chan : Byte) (spin : Half) (mx my : F32),
    (s.cfgDone = true → exec (.config chan spin mx my) s = .next s) ∧
    (s.cfgDone = false → f32val mx = none ∨ f32val my = none → exec (.config chan spin mx my) s = .next s) ∧
    ∀ x y : Int, s.cfgDone = false → f32val mx = some x → f32val my = some y →
    let stop := BitVec.ofInt 8 (s.params.pulseStop / 8)
    exec (.config chan spin mx my) s = .next
      { s with
        gainX := BitVec.ofInt 16 (normVec (epsUnits s.params) x y).1
        gainY := BitVec.ofInt 16 (normVec (epsUnits s.params) x y).2
        spin := spin
        chan := chan
        cfgDone := true
        mode := .stopped
        duty := stop
        latch := none
        sinkPort := some { chan := chan, duty := stop }
        sinkLog := s.sinkLog ++ [{ chan := chan, duty := stop }] }

/-- R107: a CONFIG accepted while configured has no effect, and no command at all changes the gains, SPIN or CHAN of a
configured block; a reset followed by a finite CONFIG does. -/
def Obligations.ConfigWhenConfiguredHasNoEffect : Prop :=
  (∀ (s : State) (chan : Byte) (spin : Half) (mx my : F32), s.cfgDone = true →
    exec (.config chan spin mx my) s = .next s) ∧
  (∀ (i : Instr) (s t : State), s.cfgDone = true → exec i s = .next t →
    t.gainX = s.gainX ∧ t.gainY = s.gainY ∧ t.spin = s.spin ∧ t.chan = s.chan ∧ t.cfgDone = true) ∧
  (∀ (s t : State) (chan : Byte) (spin : Half) (mx my : F32) (x y : Int), f32val mx = some x → f32val my = some y →
    exec (.config chan spin mx my) s.applyReset = .next t → t.spin = spin ∧ t.chan = chan)

/-- R108: a CONFIG with an infinite or NaN position has no effect, and a later CONFIG with finite operands is
performed. A position is NONFINITE when its exponent field b[30:23] is 255. -/
def Obligations.NonFiniteConfigHasNoEffect : Prop :=
  ∀ (s : State) (chan chan' : Byte) (spin spin' : Half) (mx my mx' my' : F32),
    s.cfgDone = false →
    (mx.toNat / 2 ^ 23 % 256 = 255 ∨ my.toNat / 2 ^ 23 % 256 = 255) →
    exec (.config chan spin mx my) s = .next s ∧
    (mx'.toNat / 2 ^ 23 % 256 ≠ 255 → my'.toNat / 2 ^ 23 % 256 ≠ 255 →
      ∃ t, exec (.config chan' spin' mx' my') s = .next t ∧ t.cfgDone = true ∧ t.chan = chan')

/-! ## UPDATE, STOP, reserved opcodes -/

/-- R140: UPDATE's pseudocode. A performed UPDATE completes for all operands in either mode; it computes the duty by the
rule's arithmetic, enters Running, sends the duty to CHAN, and changes nothing else. One that is not performed completes
with no effect. -/
def Obligations.UpdatePerformed : Prop :=
  ∀ (s : State) (cx cy cyaw thr : Half),
    (s.cfgDone = false → exec (.update cx cy cyaw thr) s = .next s) ∧
    (s.cfgDone = true →
    let px := Int.bmod (2 * cx.toInt) 65536 * s.gainX.toInt / 65536
    let py := Int.bmod (2 * cy.toInt) 65536 * s.gainY.toInt / 65536
    let yawt :=
      match s.params.yawMode with
      | .sign => if s.spin.toInt > 0 then cyaw.toInt else -cyaw.toInt
      | .multiply => cyaw.toInt * s.spin.toInt
    let acc := thr.toInt + px + py + yawt
    let sat := if acc < s.params.pulseFloor then s.params.pulseFloor
      else if acc > s.params.pulseCeiling then s.params.pulseCeiling else acc
    let d := BitVec.ofInt 8 (sat / 8)
    exec (.update cx cy cyaw thr) s = .next
      { s with
        mode := .running
        duty := d
        sinkPort := some { chan := s.chan, duty := d }
        sinkLog := s.sinkLog ++ [{ chan := s.chan, duty := d }] })

/-- R141 and R148: while unconfigured, UPDATE and STOP have no effect, and in a state that meets R39 the block stays
Stopped at STOP_DUTY. -/
def Obligations.UpdateAndStopWhenUnconfiguredHaveNoEffect : Prop :=
  ∀ (s : State) (cx cy cyaw thr : Half), s.cfgDone = false →
    exec (.update cx cy cyaw thr) s = .next s ∧ exec .stop s = .next s ∧
    (s.Inv → s.mode = .stopped ∧ s.duty = BitVec.ofInt 8 (s.params.pulseStop / 8))

/-- R147 with R150: STOP's pseudocode. A performed STOP completes in either mode and whatever came before; it enters
Stopped with DUTY = PULSE_STOP >> 3, sends that to CHAN, and changes nothing else. One that is not performed completes
with no effect. -/
def Obligations.StopPerformed : Prop :=
  ∀ s : State,
    (s.cfgDone = false → exec .stop s = .next s) ∧
    (s.cfgDone = true →
    let stop := BitVec.ofInt 8 (s.params.pulseStop / 8)
    exec .stop s = .next
      { s with
        mode := .stopped
        duty := stop
        sinkPort := some { chan := s.chan, duty := stop }
        sinkLog := s.sinkLog ++ [{ chan := s.chan, duty := stop }] })

/-- R76 as the meanings give it: each of the thirteen reserved opcodes completes in every state with no effect. (The
model takes R76's effect and not the refusal that U5 suggests for claims about later revisions, log 5.) -/
def Obligations.ReservedOpcodesHaveNoEffect : Prop :=
  ∀ s : State,
    exec .reserved0 s = .next s ∧ exec .reserved4 s = .next s ∧ exec .reserved5 s = .next s ∧
    exec .reserved6 s = .next s ∧ exec .reserved7 s = .next s ∧ exec .reserved8 s = .next s ∧
    exec .reserved9 s = .next s ∧ exec .reservedA s = .next s ∧ exec .reservedB s = .next s ∧
    exec .reservedC s = .next s ∧ exec .reservedD s = .next s ∧ exec .reservedE s = .next s ∧
    exec .reservedF s = .next s

/-- R76 as words: any of the 2^96 words whose OP is 0x0 or 0x4 to 0xF is accepted, counts in the command index, and then
writes no register and makes no sink write; the same at a clock edge with `cmd_ready` = 1. -/
def Obligations.ReservedWordsAreAcceptedWithNoEffect : Prop :=
  ∀ (s : State) (w : CmdWord) (rest : List HostInput), s.latch = none →
    (w.toNat % 16 = 0 ∨ 4 ≤ w.toNat % 16) →
    step { s with inputs := .command w :: rest } =
      .next { s with inputs := rest, sinkPort := none, cmdIndex := s.cmdIndex + 1 } ∧
    clockEdge ⟨false, true, w⟩ s = .next { s with sinkPort := none, cmdIndex := s.cmdIndex + 1 }

/-! ## The normalizer -/

/-- R79: the value of a binary32 pattern, with s = b[31], e = b[30:23], f = b[22:0], as the rule takes it from general
knowledge (log 16). The model holds it in units of 2^-149 (log 6). -/
def Obligations.Binary32ValuesAreExact : Prop :=
  ∀ b : F32,
    let s : Nat := b.toNat / 2 ^ 31
    let e : Nat := b.toNat / 2 ^ 23 % 256
    let f : Nat := b.toNat % 2 ^ 23
    (1 ≤ e ∧ e ≤ 254 → ∃ v : Int, f32val b = some v ∧
      (v : ℚ) / 2 ^ 149 = (-1) ^ s * (2 : ℚ) ^ ((e : Int) - 127) * (1 + (f : ℚ) / 2 ^ 23)) ∧
    (e = 0 → ∃ v : Int, f32val b = some v ∧
      (v : ℚ) / 2 ^ 149 = (-1) ^ s * (2 : ℚ) ^ (-126 : Int) * ((f : ℚ) / 2 ^ 23)) ∧
    (e = 255 → f32val b = none)

/-- R100 to R103: NORM is the rule's pseudocode over real numbers, with the exact square root, the truncation toward
zero and the clamp, and with eps = f32val(DEGEN_EPS) of any instance. Real positions are the model's integers over
2^149, its unit for positions (log 6). -/
def Obligations.NormIsTheRealFormula : Prop :=
  ∀ (p : Params) (eps x y : Int), f32val p.degenEps = some eps →
    let xr : ℝ := (x : ℝ) / 2 ^ 149
    let yr : ℝ := (y : ℝ) / 2 ^ 149
    let er : ℝ := (eps : ℝ) / 2 ^ 149
    let n : ℝ := Real.sqrt (xr * xr + yr * yr)
    let truncz : ℝ → Int := fun r => if 0 ≤ r then ⌊r⌋ else ⌈r⌉
    (|xr| + |yr| ≤ er → normVec (epsUnits p) x y = (0, 0)) ∧
    (er < |xr| + |yr| → 0 < n ∧
      normVec (epsUnits p) x y = (min (max (truncz (32767 * xr / n)) (-32767)) 32767,
        min (max (truncz (32767 * yr / n)) (-32767)) 32767))

/-- The integer statement of R102, and R103's remark that the clamp never changes a value: off the degenerate set each
gain's magnitude is the largest k in [0, 32767] with `k^2 (x^2 + y^2) <= 32767^2 c^2`. -/
def Obligations.GainIsTheLargestInteger : Prop :=
  ∀ eps x y : Int, 0 ≤ eps → eps < |x| + |y| →
    (∀ k : Nat, k ≤ 32767 →
      ((k : Int) ≤ |(normVec eps x y).1| ↔ (k : Int) * k * (x * x + y * y) ≤ 32767 * 32767 * (x * x)) ∧
      ((k : Int) ≤ |(normVec eps x y).2| ↔ (k : Int) * k * (x * x + y * y) ≤ 32767 * 32767 * (y * y))) ∧
    |(normVec eps x y).1| ≤ 32767 ∧ |(normVec eps x y).2| ≤ 32767

/-- R104: range, sign, axis, symmetry and scale of NORM. Two positions are proportional when a positive multiple of one is
a positive multiple of the other. -/
def Obligations.NormSignAxisSymmetryScale : Prop :=
  ∀ eps x y : Int, 0 ≤ eps →
    (-32767 ≤ (normVec eps x y).1 ∧ (normVec eps x y).1 ≤ 32767) ∧
    (-32767 ≤ (normVec eps x y).2 ∧ (normVec eps x y).2 ≤ 32767) ∧
    ((normVec eps x y).1 = 0 ∨ (normVec eps x y).1.sign = x.sign) ∧
    ((normVec eps x y).2 = 0 ∨ (normVec eps x y).2.sign = y.sign) ∧
    (eps < x → normVec eps x 0 = (32767, 0)) ∧ (x < -eps → normVec eps x 0 = (-32767, 0)) ∧
    (eps < y → normVec eps 0 y = (0, 32767)) ∧
    normVec eps (-x) y = (-(normVec eps x y).1, (normVec eps x y).2) ∧
    normVec eps x (-y) = ((normVec eps x y).1, -(normVec eps x y).2) ∧
    normVec eps y x = ((normVec eps x y).2, (normVec eps x y).1) ∧
    (∀ x' y' a b : Int, 0 < a → 0 < b → a * x' = b * x → a * y' = b * y → eps < |x| + |y| → eps < |x'| + |y'| →
      normVec eps x' y' = normVec eps x y)

/-- R105, with R104's truncation loss: off the degenerate set the gain vector is within 2 ULP of unit length. -/
def Obligations.GainsHaveUnitLength : Prop :=
  ∀ eps x y : Int, 0 ≤ eps → eps < |x| + |y| →
    let g2 : ℝ := ((normVec eps x y).1 : ℝ) ^ 2 + ((normVec eps x y).2 : ℝ) ^ 2
    let n : ℝ := Real.sqrt ((x : ℝ) ^ 2 + (y : ℝ) ^ 2)
    (32767 : ℝ) ^ 2 - 2 * Real.sqrt 2 * 32767 < g2 ∧ g2 ≤ (32767 : ℝ) ^ 2 ∧
    32767 - Real.sqrt 2 < Real.sqrt g2 ∧ Real.sqrt g2 ≤ 32767 ∧
    32767 * |(x : ℝ)| / n - |((normVec eps x y).1 : ℝ)| < 1 ∧
    32767 * |(y : ℝ)| / n - |((normVec eps x y).2 : ℝ)| < 1

/-- R22, R23, R103: the gain registers of a configured motor hold NORM's integers exactly, so -32768 never occurs. -/
def Obligations.StoredGainsAreNorm : Prop :=
  ∀ (s : State) (chan : Byte) (spin : Half) (mx my : F32) (x y : Int),
    s.cfgDone = false → f32val mx = some x → f32val my = some y →
    ∃ t, exec (.config chan spin mx my) s = .next t ∧
      t.gainX.toInt = (normVec (epsUnits s.params) x y).1 ∧ t.gainY.toInt = (normVec (epsUnits s.params) x y).2 ∧
      t.gainX.toInt ≠ -32768 ∧ t.gainY.toInt ≠ -32768

/-! ## The datapath of UPDATE -/

/-- R130: MULH is the floor of the product over 65536, which is the upper 16 bits of the 32-bit product read as
signed, with the rule's three values. -/
def Obligations.MulhIsFloorAndHighWord : Prop :=
  (∀ a b : Half,
    mulh a.toInt b.toInt = ⌊((a.toInt * b.toInt : Int) : ℚ) / 65536⌋ ∧
    mulh a.toInt b.toInt = ((a.signExtend 32 * b.signExtend 32).extractLsb' 16 16).toInt) ∧
  mulh (-1) 1 = -1 ∧ mulh (-200) 32767 = -100 ∧ mulh 200 32767 = 99

/-- R131: the range of the product and of MULH, its one result 16384, commutativity, zero and minus one. -/
def Obligations.MulhRangeAndLaws : Prop :=
  ∀ a b : Half,
    -1073709056 ≤ a.toInt * b.toInt ∧ a.toInt * b.toInt ≤ 1073741824 ∧
    -16384 ≤ mulh a.toInt b.toInt ∧ mulh a.toInt b.toInt ≤ 16384 ∧
    (mulh a.toInt b.toInt = 16384 ↔ a.toInt = -32768 ∧ b.toInt = -32768) ∧
    mulh a.toInt b.toInt = mulh b.toInt a.toInt ∧ mulh a.toInt 0 = 0 ∧
    (-65536 ≤ a.toInt * b.toInt ∧ a.toInt * b.toInt ≤ -1 → mulh a.toInt b.toInt = -1)

/-- R132: the doubled command is the low 16 bits of c shifted left by one, read as signed; it is 2c on
[-16384, 16383], and the rule's five wrapped values. -/
def Obligations.DoublingWrapsAtSixteenBits : Prop :=
  (∀ c : Half, dbl c.toInt = (c <<< 1).toInt ∧
    (-16384 ≤ c.toInt ∧ c.toInt ≤ 16383 → dbl c.toInt = 2 * c.toInt)) ∧
  dbl 16384 = -32768 ∧ dbl 20000 = -25536 ∧ dbl 32767 = -2 ∧ dbl (-16385) = 32766 ∧ dbl (-32768) = 0

/-- R133: a contribution lies in [-16384, 16383] for a legal gain, and for an operand that doubles exactly it is the
Q1.15 product rounded toward minus infinity. -/
def Obligations.ContributionIsQ15Product : Prop :=
  ∀ c gain : Half, -32767 ≤ gain.toInt → gain.toInt ≤ 32767 →
    -16384 ≤ contribution c gain ∧ contribution c gain ≤ 16383 ∧
    (-16384 ≤ c.toInt ∧ c.toInt ≤ 16383 →
      contribution c gain = ⌊((c.toInt * gain.toInt : Int) : ℚ) / 32768⌋)

/-- R134 and R135: the yaw term in both yaw modes, its range, and where the modes agree. The range of the SIGN term is
[-32768, 32768] here: R134's sentence says [-32767, 32768], but cyaw = -32768 with SPIN > 0 gives -32768 by the same
rule and by a vector of 95_test_vectors.md section 5 (log 15). -/
def Obligations.YawTermByMode : Prop :=
  ∀ spin cyaw : Half,
    (spin.toInt > 0 → yawTerm .sign spin cyaw = cyaw.toInt) ∧
    (spin.toInt ≤ 0 → yawTerm .sign spin cyaw = -cyaw.toInt) ∧
    -32768 ≤ yawTerm .sign spin cyaw ∧ yawTerm .sign spin cyaw ≤ 32768 ∧
    (yawTerm .sign spin cyaw = 32768 ↔ cyaw.toInt = -32768 ∧ spin.toInt ≤ 0) ∧
    yawTerm .multiply spin cyaw = cyaw.toInt * spin.toInt ∧
    -1073709056 ≤ yawTerm .multiply spin cyaw ∧ yawTerm .multiply spin cyaw ≤ 1073741824 ∧
    (spin.toInt = 0 → yawTerm .multiply spin cyaw = 0) ∧
    (spin.toInt = 1 ∨ spin.toInt = -1 → yawTerm .multiply spin cyaw = yawTerm .sign spin cyaw)

/-- R136 and R137: the accumulator never wraps: adding the four terms in 32-bit arithmetic, in either of two orders,
gives the exact sum, for every operand and gain and in both yaw modes; with YAW_MODE = SIGN, |ACC| <= 98304. -/
def Obligations.AccumulatorNeverWraps : Prop :=
  ∀ (m : YawMode) (gx gy spin cx cy cyaw thr : Half),
    let t := BitVec.ofInt 32 thr.toInt
    let px := BitVec.ofInt 32 (contribution cx gx)
    let py := BitVec.ofInt 32 (contribution cy gy)
    let yw := BitVec.ofInt 32 (yawTerm m spin cyaw)
    let acc := accumulate m gx gy spin cx cy cyaw thr
    acc = thr.toInt + contribution cx gx + contribution cy gy + yawTerm m spin cyaw ∧
    (((t + px) + py) + yw).toInt = acc ∧ ((yw + py) + (px + t)).toInt = acc ∧
    (m = .sign → -98304 ≤ acc ∧ acc ≤ 98304)

/-- R138 and R139: the inclusive clamp to [PULSE_FLOOR, PULSE_CEILING], then the division by 8, which is the floor, the
truncation toward zero, and SAT[10:3]. -/
def Obligations.SaturationThenDutyScaling : Prop :=
  ∀ (p : Params) (acc : Int),
    (acc < p.pulseFloor → saturate p acc = p.pulseFloor) ∧
    (acc > p.pulseCeiling → saturate p acc = p.pulseCeiling) ∧
    (p.pulseFloor ≤ acc → acc ≤ p.pulseCeiling → saturate p acc = acc) ∧
    ((dutyOf (saturate p acc)).toNat : Int) = ⌊((saturate p acc : Int) : ℚ) / 8⌋ ∧
    ((dutyOf (saturate p acc)).toNat : Int) = (saturate p acc).tdiv 8 ∧
    dutyOf (saturate p acc) = (BitVec.ofInt 11 (saturate p acc)).extractLsb' 3 8

/-- R143 and R146 at the level of the machine: a performed UPDATE sends a duty in [FLOOR_DUTY, CEILING_DUTY], exactly
CEILING_DUTY when ACC is above the ceiling and exactly FLOOR_DUTY when it is below the floor. -/
def Obligations.UpdateDutyStaysInRange : Prop :=
  ∀ (s : State) (cx cy cyaw thr : Half), s.cfgDone = true →
    ∃ t, exec (.update cx cy cyaw thr) s = .next t ∧ t.sinkPort = some { chan := s.chan, duty := t.duty } ∧
      s.params.pulseFloor / 8 ≤ t.duty.toNat ∧ t.duty.toNat ≤ s.params.pulseCeiling / 8 ∧
      (accumulate s.params.yawMode s.gainX s.gainY s.spin cx cy cyaw thr > s.params.pulseCeiling →
        (t.duty.toNat : Int) = s.params.pulseCeiling / 8) ∧
      (accumulate s.params.yawMode s.gainX s.gainY s.spin cx cy cyaw thr < s.params.pulseFloor →
        (t.duty.toNat : Int) = s.params.pulseFloor / 8)

/-- R145: a performed UPDATE's duty never decreases as throttle grows, over the whole signed 16-bit range. -/
def Obligations.ThrottleIsMonotone : Prop :=
  ∀ (s t t' : State) (cx cy cyaw thr thr' : Half), s.cfgDone = true → thr.toInt ≤ thr'.toInt →
    exec (.update cx cy cyaw thr) s = .next t → exec (.update cx cy cyaw thr') s = .next t' →
    t.duty.toNat ≤ t'.duty.toNat

/-- R153: the result of a performed UPDATE depends only on its operands, the gains, SPIN, CHAN and the parameters: two
configured blocks that agree on these make the same sink write and end in the same mode with the same duty, whatever
their MODE, DUTY and past writes were. -/
def Obligations.UpdateHasNoHistory : Prop :=
  ∀ (s s' : State) (cx cy cyaw thr : Half),
    s.cfgDone = true → s'.cfgDone = true → s.params = s'.params → s.gainX = s'.gainX → s.gainY = s'.gainY →
    s.spin = s'.spin → s.chan = s'.chan →
    ∃ t t', exec (.update cx cy cyaw thr) s = .next t ∧ exec (.update cx cy cyaw thr) s' = .next t' ∧
      t.duty = t'.duty ∧ t.mode = t'.mode ∧ t.sinkPort = t'.sinkPort ∧
      ∃ w, t.sinkLog = s.sinkLog ++ [w] ∧ t'.sinkLog = s'.sinkLog ++ [w]

/-- R151: two motors that differ in the sense of SPIN receive yaw terms of opposite sign. -/
def Obligations.YawSignsAreOpposite : Prop :=
  ∀ gx gy spin spin' cx cy cyaw thr : Half, spin.toInt > 0 →
    (spin'.toInt ≤ 0 →
      yawTerm .sign spin cyaw = -yawTerm .sign spin' cyaw ∧
      accumulate .sign gx gy spin cx cy cyaw thr - accumulate .sign gx gy spin' cx cy cyaw thr = 2 * cyaw.toInt) ∧
    (spin'.toInt < 0 → (yawTerm .multiply spin cyaw).sign = -(yawTerm .multiply spin' cyaw).sign)

/-- A degenerate motor, with both gains 0, mixes throttle and yaw only: cx and cy have no effect (R106 and R140, corner
cases). -/
def Obligations.ZeroGainsIgnoreRollAndPitch : Prop :=
  ∀ (s : State) (cx cy cx' cy' cyaw thr : Half), s.cfgDone = true → s.gainX = 0 → s.gainY = 0 →
    exec (.update cx cy cyaw thr) s = exec (.update cx' cy' cyaw thr) s ∧
    accumulate s.params.yawMode s.gainX s.gainY s.spin cx cy cyaw thr =
      thr.toInt + yawTerm s.params.yawMode s.spin cyaw

/-! ## Whole-machine rules -/

/-- R37, the write-access table, over all commands: which command may write which register, that a command that is not
performed writes nothing, and what no command ever writes. -/
def Obligations.WriteAccessTable : Prop :=
  ∀ (i : Instr) (s t : State), exec i s = .next t →
    t.cmdIndex = s.cmdIndex ∧ t.inputs = s.inputs ∧ t.params = s.params ∧
    ((∀ chan spin mx my, i ≠ .config chan spin mx my) →
      t.gainX = s.gainX ∧ t.gainY = s.gainY ∧ t.spin = s.spin ∧ t.chan = s.chan ∧ t.cfgDone = s.cfgDone ∧
      t.latch = s.latch) ∧
    ((∀ chan spin mx my, i ≠ .config chan spin mx my) → s.cfgDone = false → t = s) ∧
    (∀ chan spin mx my, i = .config chan spin mx my → s.cfgDone = true → t = s) ∧
    ((∀ chan spin mx my, i ≠ .config chan spin mx my) → (∀ cx cy cyaw thr, i ≠ .update cx cy cyaw thr) → i ≠ .stop →
      t = s) ∧
    (s.cfgDone = true → t.cfgDone = true) ∧
    (t = s ∨ ∃ w, t.sinkPort = some w ∧ t.sinkLog = s.sinkLog ++ [w] ∧ w.chan = t.chan ∧ w.duty = t.duty)

/-- R142 and R188: only a performed UPDATE enters Running; every command that changes Running to Stopped is a performed
CONFIG or a performed STOP. -/
def Obligations.ModeIsEnteredOnlyByItsCommands : Prop :=
  ∀ (i : Instr) (s t : State), exec i s = .next t →
    (s.mode = .stopped → t.mode = .running →
      s.cfgDone = true ∧ ∃ cx cy cyaw thr, i = .update cx cy cyaw thr) ∧
    (s.mode = .running → t.mode = .stopped →
      (s.cfgDone = true ∧ i = .stop) ∨ (s.cfgDone = false ∧ ∃ chan spin mx my, i = .config chan spin mx my))

/-- R27 and R206: over any step other than a reset edge, a configured block stays configured with the same gains, spin
direction and channel. -/
def Obligations.ConfiguredMotorIsFixedUntilReset : Prop :=
  ∀ s t : State, s.cfgDone = true → (∀ rest, s.inputs ≠ .reset :: rest) → step s = .next t →
    t.cfgDone = true ∧ t.gainX = s.gainX ∧ t.gainY = s.gainY ∧ t.spin = s.spin ∧ t.chan = s.chan

/-- R26, R37, R54: a step makes at most one sink write; when it makes one, the port drives it, on the block's channel,
and DUTY is its duty; when it makes none, DUTY stays, but for a reset edge, which sets STOP_DUTY. The list of writes is
the model's record of a run (log 4). -/
def Obligations.DutyIsTheLastSinkWrite : Prop :=
  ∀ s t : State, step s = .next t →
    (∃ w, t.sinkLog = s.sinkLog ++ [w] ∧ t.sinkPort = some w ∧ w.duty = t.duty ∧ w.chan = t.chan) ∨
    (t.sinkLog = s.sinkLog ∧ t.sinkPort = none ∧
      (t.duty = s.duty ∨ (∃ rest, s.inputs = .reset :: rest) ∧ t.duty = BitVec.ofInt 8 (s.params.pulseStop / 8)))

/-- R31: no step, clock edge or reset changes a parameter. That State carries them is the model's choice (log 1). -/
def Obligations.ParametersNeverChange : Prop :=
  (∀ s t : State, step s = .next t → t.params = s.params) ∧
  (∀ (p : Pins) (s t : State), clockEdge p s = .next t → t.params = s.params)

/-- R29, last part: in the transactional model BUSY is never observed: a step from a state with no CONFIG in progress
ends in one, and a step while one is in progress completes it, which is the model's choice (log 8). -/
def Obligations.TransactionalStepsAreNeverBusy : Prop :=
  ∀ s t : State, step s = .next t → t.busy = false

/-! ## Reset -/

/-- R38: the state after reset, for every instance. -/
def Obligations.ResetValues : Prop :=
  ∀ p : Params,
    let s := State.resetWith p
    s.gainX = 0 ∧ s.gainY = 0 ∧ s.spin = 0 ∧ s.chan = 0 ∧ s.duty = BitVec.ofInt 8 (p.pulseStop / 8) ∧
    s.cfgDone = false ∧ s.mode = .stopped ∧ s.busy = false ∧ s.latch = none ∧ s.sinkWe = false ∧
    s.cmdReady false = true ∧ s.cmdIndex = 0

/-- R200 to R203: an edge with `rst` = 1 from any state whatever gives the reset registers, discards a CONFIG in
progress, accepts nothing and makes no sink write, in the step and at the clock edge. -/
def Obligations.ResetEdgeFromAnyState : Prop :=
  ∀ (s : State) (rest : List HostInput) (valid : Bool) (w : CmdWord),
    step { s with inputs := .reset :: rest } =
      .next { State.resetWith s.params with sinkLog := s.sinkLog, inputs := rest } ∧
    clockEdge ⟨true, valid, w⟩ s =
      .next { State.resetWith s.params with sinkLog := s.sinkLog, inputs := s.inputs } ∧
    s.cmdReady true = false

/-- R39 holds after reset, for every instance. -/
def Obligations.ResetSatisfiesTheInvariant : Prop :=
  ∀ p : Params, (State.resetWith p).Inv

/-- R39 with R4's safety of the pulse stream: every transactional step keeps the invariant, from every state that meets
it. -/
def Obligations.StepKeepsTheInvariant : Prop :=
  ∀ s t : State, s.Inv → step s = .next t → t.Inv

/-! ## The cycle level -/

/-- Every clock edge keeps the invariant as well, whatever the pins. -/
def Obligations.ClockEdgeKeepsTheInvariant : Prop :=
  ∀ (p : Pins) (s t : State), s.Inv → clockEdge p s = .next t → t.Inv

/-- R34 and R208: `cmd_ready` is 0 exactly while `rst` = 1 and while BUSY = 1; a configured block in a state that meets the
invariant is always ready outside reset, so UPDATE and STOP are never held. -/
def Obligations.CommandReadyExactlyWhenIdle : Prop :=
  (∀ (s : State) (rst : Bool), s.cmdReady rst = false ↔ rst = true ∨ s.busy = true) ∧
  (∀ s : State, s.Inv → s.cfgDone = true → s.cmdReady false = true)

/-- R52: at an edge with `rst` = 0 a command is accepted when `cmd_valid` and `cmd_ready` are 1; otherwise nothing is
accepted and the word is ignored, whatever it is. Acceptance is seen in the command index (R21), which grows by 1 at the
accepting edge; that it grows there for a CONFIG of several edges too is the model's reading (log 14). -/
def Obligations.AcceptanceNeedsValidAndReady : Prop :=
  (∀ (s t : State) (w : CmdWord), s.cmdReady false = true → clockEdge ⟨false, true, w⟩ s = .next t →
    t.cmdIndex = s.cmdIndex + 1) ∧
  (∀ (s t : State) (valid : Bool) (w : CmdWord), valid = false ∨ s.cmdReady false = false →
    clockEdge ⟨false, valid, w⟩ s = .next t → t.cmdIndex = s.cmdIndex) ∧
  (∀ (s : State) (valid valid' : Bool) (w w' : CmdWord),
    valid = false ∧ valid' = false ∨ s.cmdReady false = false →
    clockEdge ⟨false, valid, w⟩ s = clockEdge ⟨false, valid', w'⟩ s)

/-- R109 with R14: at the cycle level a performed CONFIG accepted at one edge and followed by CONFIG_LATENCY - 1 further
edges, whatever the command pins show during them, ends in exactly the state of the one atomic step. -/
def Obligations.CycleLevelConfigRefinesTheStep : Prop :=
  ∀ (s : State) (w : CmdWord) (chan : Byte) (spin : Half) (mx my : F32) (rest : List HostInput) (later : List Pins),
    s.latch = none → s.cfgDone = false → decodeWord w = .config chan spin mx my →
    f32val mx ≠ none → f32val my ≠ none →
    later.length + 1 = s.params.configLatency → (∀ p ∈ later, p.rst = false) →
    runEdges (⟨false, true, w⟩ :: later) { s with inputs := rest } = step { s with inputs := .command w :: rest }

/-- R109: until its last edge a performed CONFIG shows no register change and no sink write, BUSY is 1 and `cmd_ready` is
0, and the latch holds its operands. -/
def Obligations.CycleLevelConfigIsBusyUntilItsLastEdge : Prop :=
  ∀ (s : State) (w : CmdWord) (chan : Byte) (spin : Half) (mx my : F32) (later : List Pins),
    s.latch = none → s.cfgDone = false → decodeWord w = .config chan spin mx my →
    f32val mx ≠ none → f32val my ≠ none →
    later.length + 1 < s.params.configLatency → (∀ p ∈ later, p.rst = false) →
    ∃ t, runEdges (⟨false, true, w⟩ :: later) s = .next t ∧ t.busy = true ∧ t.cmdReady false = false ∧
      t.observe = s.observe ∧ t.sinkWe = false ∧ t.sinkLog = s.sinkLog ∧
      (t.latch.map fun c => c.ops) = some { chan := chan, spin := spin, mx := mx, my := my }

/-- R144, R149, R107, R108 and R109: at a ready edge every command but a performed CONFIG takes effect at once: the one
edge is the atomic step, and it leaves the block ready for a command at the next edge. A CONFIG with no effect, in a
configured block or with a non-finite position, writes no register at that edge, makes no sink write and does not set
BUSY. -/
def Obligations.CycleLevelSingleEdgeCommands : Prop :=
  ∀ (s t : State) (w : CmdWord) (rest : List HostInput),
    s.latch = none →
    (∀ chan spin mx my, decodeWord w = .config chan spin mx my →
      s.cfgDone = true ∨ f32val mx = none ∨ f32val my = none) →
    clockEdge ⟨false, true, w⟩ { s with inputs := rest } = step { s with inputs := .command w :: rest } ∧
    (clockEdge ⟨false, true, w⟩ s = .next t → t.cmdReady false = true) ∧
    ((∃ chan spin mx my, decodeWord w = .config chan spin mx my) →
      clockEdge ⟨false, true, w⟩ s = .next { s with sinkPort := none, cmdIndex := s.cmdIndex + 1 })

/-- R183 and R201: a reset edge during a CONFIG in progress discards it: the CONFIG's writes never happen, and the block
is ready and unconfigured after it. -/
def Obligations.ResetDiscardsAConfigInProgress : Prop :=
  ∀ (s t : State) (c : ConfigInFlight) (valid : Bool) (w : CmdWord), s.latch = some c →
    clockEdge ⟨true, valid, w⟩ s = .next t →
    t.latch = none ∧ t.cfgDone = false ∧ t.sinkWe = false ∧ t.sinkLog = s.sinkLog ∧ t.cmdReady false = true ∧
    clockEdge ⟨false, false, w⟩ t = .next t

/-! ## Ports, parameters, assembler -/

/-- R36: each observation output is its register. -/
def Obligations.ObservationPortsShowTheRegisters : Prop :=
  ∀ s : State,
    s.observe.gainX = s.gainX ∧ s.observe.gainY = s.gainY ∧ s.observe.spin = s.spin ∧ s.observe.chan = s.chan ∧
    s.observe.duty = s.duty ∧ (s.observe.cfgDone = 1#1 ↔ s.cfgDone = true) ∧ (s.observe.mode = 1#1 ↔ s.mode = .running)

/-- R7: the derived duty constants of a valid instance are the pulses over 8, in [0, 255] and in order. -/
def Obligations.DerivedDutiesFitAByte : Prop :=
  ∀ p : Params,
    ((stopDuty p).toNat : Int) = p.pulseStop / 8 ∧ ((floorDuty p).toNat : Int) = p.pulseFloor / 8 ∧
    ((ceilingDuty p).toNat : Int) = p.pulseCeiling / 8 ∧
    stopDuty p ≤ floorDuty p ∧ floorDuty p ≤ ceilingDuty p

/-- R6 and R101: an instance is built exactly from the parameter sets the rules allow. A pattern is a legal DEGEN_EPS when
it is finite (b[30:23] below 255) and its value is not negative (b[31] = 0, or the value is zero: the pattern of -0 passes,
log 7). -/
def Obligations.OnlyValidParameterSetsAreBuilt : Prop :=
  ∀ v : ParamValues,
    (Params.build? v).isSome = true ↔
      0 ≤ v.pulseStop ∧ v.pulseStop ≤ v.pulseFloor ∧ v.pulseFloor ≤ v.pulseCeiling ∧ v.pulseCeiling ≤ 2047 ∧
      1 ≤ v.configLatency ∧ v.degenEps.toNat / 2 ^ 23 % 256 ≠ 255 ∧
      (v.degenEps.toNat < 2 ^ 31 ∨ v.degenEps.toNat % 2 ^ 31 = 0)

/-- R82: a line assembles exactly when every operand is in range, an integer in decimal or as the raw bits of its field,
and the word then decodes to those operands; an operand out of range is an assembly error. Nothing wraps or clamps. The
positions of a CONFIG are the raw patterns, or the patterns of their literals (R83). -/
def Obligations.AssemblerNeverWrapsAnOperand : Prop :=
  let inRange := fun (lo hi : Int) (rawEnd : Nat) (a : AsmInt) =>
    (match a with
    | .dec v => lo ≤ v ∧ v ≤ hi
    | .hex raw => raw < rawEnd : Prop)
  let okHalf := inRange (-32768) 32767 65536
  let okChan := inRange 0 255 256
  let isHalf := fun (a : AsmInt) (b : Half) =>
    (match a with
    | .dec v => b.toInt = v
    | .hex raw => b.toNat = raw : Prop)
  let isChan := fun (a : AsmInt) (b : Byte) =>
    (match a with
    | .dec v => (b.toNat : Int) = v
    | .hex raw => b.toNat = raw : Prop)
  (∀ cx cy cyaw thr : AsmInt,
    (okHalf cx ∧ okHalf cy ∧ okHalf cyaw ∧ okHalf thr → ∃ w a b c d,
      assemble (.update cx cy cyaw thr) = .ok w ∧ decodeWord w = .update a b c d ∧
      isHalf cx a ∧ isHalf cy b ∧ isHalf cyaw c ∧ isHalf thr d) ∧
    (¬ (okHalf cx ∧ okHalf cy ∧ okHalf cyaw ∧ okHalf thr) →
      assemble (.update cx cy cyaw thr) = .error .intOutOfRange)) ∧
  (∀ (chan spin : AsmInt) (mx my : AsmReal),
    (∀ mxBits myBits : F32,
      okChan chan → okHalf spin → mx.pattern? = some mxBits → my.pattern? = some myBits → ∃ w a b,
      assemble (.config chan spin mx my) = .ok w ∧ decodeWord w = .config a b mxBits myBits ∧
      isChan chan a ∧ isHalf spin b) ∧
    (¬ okChan chan → assemble (.config chan spin mx my) = .error .chanOutOfRange) ∧
    (okChan chan → ¬ okHalf spin → assemble (.config chan spin mx my) = .error .intOutOfRange) ∧
    (okChan chan → okHalf spin → mx.pattern? = none ∨ my.pattern? = none →
      assemble (.config chan spin mx my) = .error .realOutOfRange)) ∧
  (∀ b : F32, (AsmReal.raw b).pattern? = some b) ∧
  (∀ (neg : Bool) (mant : Nat) (exp10 : Int), (AsmReal.dec neg mant exp10).pattern? =
    f32Nearest neg (mant * 10 ^ exp10.toNat) (10 ^ (-exp10).toNat)) ∧
  (∃ w, assemble .stop = .ok w ∧ decodeWord w = .stop) ∧
  (∀ raw : Nat,
    (raw < 2 ^ 96 → ∃ w, assemble (.word96 raw) = .ok w ∧ w.toNat = raw) ∧
    (2 ^ 96 ≤ raw → assemble (.word96 raw) = .error .wordOutOfRange))

/-- R83: the assembler's conversion gives the nearest finite binary32 value; of two at the same distance, the one with an
even fraction. It fails exactly when the magnitude rounds beyond the largest finite value, that is from half a unit in
the last place above it on. -/
def Obligations.LiteralsRoundToNearestEven : Prop :=
  ∀ (neg : Bool) (num den : Nat), 0 < den →
    let target : ℚ := (if neg then -(num : ℚ) else (num : ℚ)) / den
    (∀ b : F32, f32Nearest neg num den = some b →
      ∃ v : Int, f32val b = some v ∧
        ∀ (b' : F32) (v' : Int), f32val b' = some v' →
          |(v : ℚ) / 2 ^ 149 - target| ≤ |(v' : ℚ) / 2 ^ 149 - target| ∧
          (v' ≠ v → |(v : ℚ) / 2 ^ 149 - target| = |(v' : ℚ) / 2 ^ 149 - target| → b.toNat % 2 = 0)) ∧
    (f32Nearest neg num den = none ↔ (2 ^ 128 - 2 ^ 103) * den ≤ num)
end

