-- ==== Sys2Proof/Laws/Arith.lean ====
section
/-! SUPPORT. One lemma per arithmetic primitive: the clamp, the shift, the wrap, and the duty value of a pulse; and the
bounds a valid parameter set gives. -/

namespace Sys2Proof.Machine

theorem clamp_bounds (v : Int) {lo hi : Int} (h : lo ≤ hi) : lo ≤ clamp v lo hi ∧ clamp v lo hi ≤ hi := by
  unfold clamp; omega

theorem clamp_eq_self {v lo hi : Int} (hlo : lo ≤ v) (hhi : v ≤ hi) : clamp v lo hi = v := by
  unfold clamp; omega

theorem clamp_mono {v w lo hi : Int} (h : v ≤ w) : clamp v lo hi ≤ clamp w lo hi := by
  unfold clamp; omega

theorem clamp_eq_cases {v lo hi : Int} (h : lo ≤ hi) :
    clamp v lo hi = if v < lo then lo else if v > hi then hi else v := by
  unfold clamp; split <;> [omega; split <;> omega]

theorem wrap16_range (v : Int) : -32768 ≤ wrap16 v ∧ wrap16 v ≤ 32767 := by
  unfold wrap16
  rw [Int.bmod_def]
  split <;> omega

theorem wrap16_eq_self {v : Int} (hlo : -32768 ≤ v) (hhi : v ≤ 32767) : wrap16 v = v := by
  unfold wrap16
  rw [Int.bmod_def]
  split <;> omega

theorem sext16_range (v : Half) : -32768 ≤ sext16 v ∧ sext16 v ≤ 32767 := by
  have h1 := BitVec.two_mul_toInt_lt (x := v)
  have h2 := BitVec.le_two_mul_toInt (x := v)
  unfold sext16
  omega

/-- The duty of a legal pulse is its eighth, with nothing lost to the byte. -/
theorem dutyOf_toNat {v : Int} (h0 : 0 ≤ v) (h1 : v ≤ 2047) : ((dutyOf v).toNat : Int) = v / 8 := by
  have h8 : (2 : Int) ^ Config.dutyShift = 8 := rfl
  unfold dutyOf shiftRight
  rw [h8, BitVec.toNat_ofInt]
  omega

theorem dutyOf_le {v w : Int} (h0 : 0 ≤ v) (h : v ≤ w) (h1 : w ≤ 2047) : dutyOf v ≤ dutyOf w := by
  have hv := dutyOf_toNat h0 (Int.le_trans h h1)
  have hw := dutyOf_toNat (Int.le_trans h0 h) h1
  rw [BitVec.le_def]
  omega

theorem Params.pulse_bounds (p : Params) :
    0 ≤ p.pulseStop ∧ p.pulseStop ≤ p.pulseFloor ∧ p.pulseFloor ≤ p.pulseCeiling ∧ p.pulseCeiling ≤ 2047 :=
  ⟨p.valid.1, p.valid.2.1, p.valid.2.2.1, p.valid.2.2.2.1⟩

theorem Params.latency_pos (p : Params) : 1 ≤ p.configLatency := p.valid.2.2.2.2.1

theorem epsUnits_nonneg (p : Params) : 0 ≤ epsUnits p := by
  have h : epsLegal p.degenEps = true := p.valid.2.2.2.2.2
  unfold epsLegal at h
  unfold epsUnits
  split at h <;> simp_all

theorem saturate_bounds (p : Params) (acc : Int) :
    p.pulseFloor ≤ saturate p acc ∧ saturate p acc ≤ p.pulseCeiling :=
  clamp_bounds acc (Params.pulse_bounds p).2.2.1

/-- R143: the duty of an UPDATE lies between the floor's and the ceiling's. -/
theorem mixDuty_bounds (p : Params) (gx gy spin cx cy cyaw thr : Half) :
    floorDuty p ≤ mixDuty p gx gy spin cx cy cyaw thr ∧ mixDuty p gx gy spin cx cy cyaw thr ≤ ceilingDuty p := by
  have hp := Params.pulse_bounds p
  have hs := saturate_bounds p (accumulate p.yawMode gx gy spin cx cy cyaw thr)
  unfold mixDuty floorDuty ceilingDuty
  exact ⟨dutyOf_le (by omega) hs.1 (by omega), dutyOf_le (by omega) hs.2 (by omega)⟩

theorem mixDuty_legal (p : Params) (gx gy spin cx cy cyaw thr : Half) :
    legalDuty p (mixDuty p gx gy spin cx cy cyaw thr) :=
  .inr (mixDuty_bounds p gx gy spin cx cy cyaw thr)

theorem stopDuty_legal (p : Params) : legalDuty p (stopDuty p) := .inl rfl

end Sys2Proof.Machine
end

