-- ==== Sys2Proof/Laws/Decode.lean ====
section
/-! SUPPORT. Decoding over numbers: OP is the word modulo 16, and a field is a quotient of the word. -/

namespace Sys2Proof

theorem opField_toNat (w : CmdWord) : (opField w).toNat = w.toNat % 16 := by
  simp [opField, field, BitVec.extractLsb'_toNat]

theorem field_eq_ofNat (w : CmdWord) (lo width : Nat) : field w lo width = BitVec.ofNat width (w.toNat / 2 ^ lo) := by
  apply BitVec.eq_of_toNat_eq
  simp [field, BitVec.extractLsb'_toNat, Nat.shiftRight_eq_div_pow]

theorem decodeWord_eq_row (w : CmdWord) : decodeWord w = decodeRow w (w.toNat % 16) := by
  rw [decodeWord, opField_toNat]

end Sys2Proof
end

