-- ==== Sys2Proof/Laws/Normalizer.lean ====
section
/-! SUPPORT. The normalizer's search: what `gainSearch` finds, once, and the range of the gains (R102, R103). -/

namespace Sys2Proof.Machine

/-- The test of R102 for one candidate magnitude. -/
def gainFits (c2 n2 k : Nat) : Prop := k * k * n2 ≤ Config.gainScale * Config.gainScale * c2

theorem gainFits_of_le {c2 n2 j k : Nat} (h : j ≤ k) (hk : gainFits c2 n2 k) : gainFits c2 n2 j :=
  Nat.le_trans (Nat.mul_le_mul_right n2 (Nat.mul_le_mul h h)) hk

/-- The search from a fitting `acc` over `b` bits finds the largest fitting number below `acc + 2^b`. -/
theorem gainSearch_spec (c2 n2 : Nat) : ∀ (b acc : Nat), gainFits c2 n2 acc →
    acc ≤ gainSearch c2 n2 b acc ∧ gainSearch c2 n2 b acc < acc + 2 ^ b ∧
    gainFits c2 n2 (gainSearch c2 n2 b acc) ∧
    ∀ k, gainFits c2 n2 k → k < acc + 2 ^ b → k ≤ gainSearch c2 n2 b acc := by
  intro b
  induction b with
  | zero => intro acc h; simp only [gainSearch]; exact ⟨by omega, by omega, h, fun k _ hk => by omega⟩
  | succ b ih =>
    intro acc h
    have hpow : 2 ^ (b + 1) = 2 ^ b + 2 ^ b := by omega
    by_cases hfit : gainFits c2 n2 (acc + 2 ^ b)
    · have heq : gainSearch c2 n2 (b + 1) acc = gainSearch c2 n2 b (acc + 2 ^ b) := by
        simp only [gainSearch]; exact if_pos hfit
      obtain ⟨h1, h2, h3, h4⟩ := ih _ hfit
      rw [heq]
      exact ⟨by omega, by omega, h3, fun k hk hlt => h4 k hk (by omega)⟩
    · have heq : gainSearch c2 n2 (b + 1) acc = gainSearch c2 n2 b acc := by
        simp only [gainSearch]; exact if_neg hfit
      obtain ⟨h1, h2, h3, h4⟩ := ih _ h
      rw [heq]
      refine ⟨h1, by omega, h3, fun k hk hlt => ?_⟩
      by_cases hk2 : k < acc + 2 ^ b
      · exact h4 k hk hk2
      · exact absurd (gainFits_of_le (by omega) hk) hfit

/-- R102: the magnitude is the largest k in [0, 32767] that fits. -/
theorem gainMagnitude_spec (c : Int) (n2 : Nat) :
    gainMagnitude c n2 ≤ 32767 ∧ gainFits (c.natAbs * c.natAbs) n2 (gainMagnitude c n2) ∧
    ∀ k, k ≤ 32767 → (k ≤ gainMagnitude c n2 ↔ gainFits (c.natAbs * c.natAbs) n2 k) := by
  obtain ⟨_, h2, h3, h4⟩ := gainSearch_spec (c.natAbs * c.natAbs) n2 15 0 (by simp [gainFits])
  refine ⟨?_, h3, fun k hk => ⟨fun h => gainFits_of_le h h3, fun h => h4 k h (by omega)⟩⟩
  have : gainMagnitude c n2 < 0 + 2 ^ 15 := h2
  omega

theorem gainOf_range (c : Int) (n2 : Nat) : -32767 ≤ gainOf c n2 ∧ gainOf c n2 ≤ 32767 := by
  have h := (gainMagnitude_spec c n2).1
  unfold gainOf
  split <;> [omega; split <;> omega]

theorem normVec_range (eps x y : Int) :
    -32767 ≤ (normVec eps x y).1 ∧ (normVec eps x y).1 ≤ 32767 ∧ -32767 ≤ (normVec eps x y).2 ∧
      (normVec eps x y).2 ≤ 32767 := by
  unfold normVec
  split
  · decide
  · have h := fun v : Int => clamp_bounds v (lo := -32767) (hi := 32767) (by decide)
    exact ⟨(h _).1, (h _).2, (h _).1, (h _).2⟩

/-- R103: the clamp never changes a gain. -/
theorem normVec_eq_of_not_degenerate {eps x y : Int} (h : degenerate eps x y = false) :
    normVec eps x y =
      (gainOf x (x.natAbs * x.natAbs + y.natAbs * y.natAbs), gainOf y (x.natAbs * x.natAbs + y.natAbs * y.natAbs)) := by
  have hr := fun c n2 => gainOf_range c n2
  simp only [normVec, h, Bool.false_eq_true, if_false]
  rw [clamp_eq_self (hr _ _).1 (hr _ _).2, clamp_eq_self (hr _ _).1 (hr _ _).2]

theorem configGains_range {p : Params} {mx my : F32} {g : Int × Int} (h : configGains p mx my = some g) :
    -32767 ≤ g.1 ∧ g.1 ≤ 32767 ∧ -32767 ≤ g.2 ∧ g.2 ≤ 32767 := by
  unfold configGains at h
  split at h
  · cases h; exact normVec_range _ _ _
  · cases h
  · cases h

/-- A gain survives its 16-bit register. -/
theorem toInt_ofInt16 {v : Int} (hlo : -32768 ≤ v) (hhi : v ≤ 32767) : (BitVec.ofInt 16 v).toInt = v := by
  rw [BitVec.toInt_ofInt]
  exact wrap16_eq_self hlo hhi

end Sys2Proof.Machine
end

