-- ==== Sys2Proof/Laws/State.lean ====
section
/-! SUPPORT. What each operation of Machine/Ops.lean (and a performed CONFIG) does to each field of the state: one lemma
per field per operation, true by rfl, so that no later proof unfolds a record update. -/

namespace Sys2Proof.Machine

variable (s : State)

/-! ### sinkWrite -/

@[simp] theorem State.sinkWrite_gainX (chan duty : Byte) : (s.sinkWrite chan duty).gainX = s.gainX := rfl
@[simp] theorem State.sinkWrite_gainY (chan duty : Byte) : (s.sinkWrite chan duty).gainY = s.gainY := rfl
@[simp] theorem State.sinkWrite_spin (chan duty : Byte) : (s.sinkWrite chan duty).spin = s.spin := rfl
@[simp] theorem State.sinkWrite_chan (chan duty : Byte) : (s.sinkWrite chan duty).chan = s.chan := rfl
@[simp] theorem State.sinkWrite_duty (chan duty : Byte) : (s.sinkWrite chan duty).duty = s.duty := rfl
@[simp] theorem State.sinkWrite_cfgDone (chan duty : Byte) : (s.sinkWrite chan duty).cfgDone = s.cfgDone := rfl
@[simp] theorem State.sinkWrite_mode (chan duty : Byte) : (s.sinkWrite chan duty).mode = s.mode := rfl
@[simp] theorem State.sinkWrite_latch (chan duty : Byte) : (s.sinkWrite chan duty).latch = s.latch := rfl
@[simp] theorem State.sinkWrite_sinkPort (chan duty : Byte) :
    (s.sinkWrite chan duty).sinkPort = some { chan := chan, duty := duty } := rfl
@[simp] theorem State.sinkWrite_cmdIndex (chan duty : Byte) : (s.sinkWrite chan duty).cmdIndex = s.cmdIndex := rfl
@[simp] theorem State.sinkWrite_sinkLog (chan duty : Byte) :
    (s.sinkWrite chan duty).sinkLog = s.sinkLog ++ [{ chan := chan, duty := duty }] := rfl
@[simp] theorem State.sinkWrite_inputs (chan duty : Byte) : (s.sinkWrite chan duty).inputs = s.inputs := rfl
@[simp] theorem State.sinkWrite_params (chan duty : Byte) : (s.sinkWrite chan duty).params = s.params := rfl

/-! ### drive -/

@[simp] theorem State.drive_gainX (m : Mode) (chan duty : Byte) : (s.drive m chan duty).gainX = s.gainX := rfl
@[simp] theorem State.drive_gainY (m : Mode) (chan duty : Byte) : (s.drive m chan duty).gainY = s.gainY := rfl
@[simp] theorem State.drive_spin (m : Mode) (chan duty : Byte) : (s.drive m chan duty).spin = s.spin := rfl
@[simp] theorem State.drive_chan (m : Mode) (chan duty : Byte) : (s.drive m chan duty).chan = s.chan := rfl
@[simp] theorem State.drive_duty (m : Mode) (chan duty : Byte) : (s.drive m chan duty).duty = duty := rfl
@[simp] theorem State.drive_cfgDone (m : Mode) (chan duty : Byte) : (s.drive m chan duty).cfgDone = s.cfgDone := rfl
@[simp] theorem State.drive_mode (m : Mode) (chan duty : Byte) : (s.drive m chan duty).mode = m := rfl
@[simp] theorem State.drive_latch (m : Mode) (chan duty : Byte) : (s.drive m chan duty).latch = s.latch := rfl
@[simp] theorem State.drive_sinkPort (m : Mode) (chan duty : Byte) :
    (s.drive m chan duty).sinkPort = some { chan := chan, duty := duty } := rfl
@[simp] theorem State.drive_cmdIndex (m : Mode) (chan duty : Byte) :
    (s.drive m chan duty).cmdIndex = s.cmdIndex := rfl
@[simp] theorem State.drive_sinkLog (m : Mode) (chan duty : Byte) :
    (s.drive m chan duty).sinkLog = s.sinkLog ++ [{ chan := chan, duty := duty }] := rfl
@[simp] theorem State.drive_inputs (m : Mode) (chan duty : Byte) : (s.drive m chan duty).inputs = s.inputs := rfl
@[simp] theorem State.drive_params (m : Mode) (chan duty : Byte) : (s.drive m chan duty).params = s.params := rfl

/-! ### setMotor -/

@[simp] theorem State.setMotor_gainX (gx gy : Int) (spin : Half) (chan : Byte) :
    (s.setMotor gx gy spin chan).gainX = BitVec.ofInt 16 gx := rfl
@[simp] theorem State.setMotor_gainY (gx gy : Int) (spin : Half) (chan : Byte) :
    (s.setMotor gx gy spin chan).gainY = BitVec.ofInt 16 gy := rfl
@[simp] theorem State.setMotor_spin (gx gy : Int) (spin : Half) (chan : Byte) :
    (s.setMotor gx gy spin chan).spin = spin := rfl
@[simp] theorem State.setMotor_chan (gx gy : Int) (spin : Half) (chan : Byte) :
    (s.setMotor gx gy spin chan).chan = chan := rfl
@[simp] theorem State.setMotor_duty (gx gy : Int) (spin : Half) (chan : Byte) :
    (s.setMotor gx gy spin chan).duty = s.duty := rfl
@[simp] theorem State.setMotor_cfgDone (gx gy : Int) (spin : Half) (chan : Byte) :
    (s.setMotor gx gy spin chan).cfgDone = true := rfl
@[simp] theorem State.setMotor_mode (gx gy : Int) (spin : Half) (chan : Byte) :
    (s.setMotor gx gy spin chan).mode = s.mode := rfl
@[simp] theorem State.setMotor_latch (gx gy : Int) (spin : Half) (chan : Byte) :
    (s.setMotor gx gy spin chan).latch = none := rfl
@[simp] theorem State.setMotor_sinkPort (gx gy : Int) (spin : Half) (chan : Byte) :
    (s.setMotor gx gy spin chan).sinkPort = s.sinkPort := rfl
@[simp] theorem State.setMotor_cmdIndex (gx gy : Int) (spin : Half) (chan : Byte) :
    (s.setMotor gx gy spin chan).cmdIndex = s.cmdIndex := rfl
@[simp] theorem State.setMotor_sinkLog (gx gy : Int) (spin : Half) (chan : Byte) :
    (s.setMotor gx gy spin chan).sinkLog = s.sinkLog := rfl
@[simp] theorem State.setMotor_inputs (gx gy : Int) (spin : Half) (chan : Byte) :
    (s.setMotor gx gy spin chan).inputs = s.inputs := rfl
@[simp] theorem State.setMotor_params (gx gy : Int) (spin : Half) (chan : Byte) :
    (s.setMotor gx gy spin chan).params = s.params := rfl

/-! ### performConfig -/

@[simp] theorem State.performConfig_gainX (gx gy : Int) (spin : Half) (chan : Byte) :
    (s.performConfig gx gy spin chan).gainX = BitVec.ofInt 16 gx := rfl
@[simp] theorem State.performConfig_gainY (gx gy : Int) (spin : Half) (chan : Byte) :
    (s.performConfig gx gy spin chan).gainY = BitVec.ofInt 16 gy := rfl
@[simp] theorem State.performConfig_spin (gx gy : Int) (spin : Half) (chan : Byte) :
    (s.performConfig gx gy spin chan).spin = spin := rfl
@[simp] theorem State.performConfig_chan (gx gy : Int) (spin : Half) (chan : Byte) :
    (s.performConfig gx gy spin chan).chan = chan := rfl
@[simp] theorem State.performConfig_duty (gx gy : Int) (spin : Half) (chan : Byte) :
    (s.performConfig gx gy spin chan).duty = stopDuty s.params := rfl
@[simp] theorem State.performConfig_cfgDone (gx gy : Int) (spin : Half) (chan : Byte) :
    (s.performConfig gx gy spin chan).cfgDone = true := rfl
@[simp] theorem State.performConfig_mode (gx gy : Int) (spin : Half) (chan : Byte) :
    (s.performConfig gx gy spin chan).mode = .stopped := rfl
@[simp] theorem State.performConfig_latch (gx gy : Int) (spin : Half) (chan : Byte) :
    (s.performConfig gx gy spin chan).latch = none := rfl
@[simp] theorem State.performConfig_sinkPort (gx gy : Int) (spin : Half) (chan : Byte) :
    (s.performConfig gx gy spin chan).sinkPort = some { chan := chan, duty := stopDuty s.params } := rfl
@[simp] theorem State.performConfig_cmdIndex (gx gy : Int) (spin : Half) (chan : Byte) :
    (s.performConfig gx gy spin chan).cmdIndex = s.cmdIndex := rfl
@[simp] theorem State.performConfig_sinkLog (gx gy : Int) (spin : Half) (chan : Byte) :
    (s.performConfig gx gy spin chan).sinkLog = s.sinkLog ++ [{ chan := chan, duty := stopDuty s.params }] := rfl
@[simp] theorem State.performConfig_inputs (gx gy : Int) (spin : Half) (chan : Byte) :
    (s.performConfig gx gy spin chan).inputs = s.inputs := rfl
@[simp] theorem State.performConfig_params (gx gy : Int) (spin : Half) (chan : Byte) :
    (s.performConfig gx gy spin chan).params = s.params := rfl

/-! ### applyReset -/

@[simp] theorem State.applyReset_gainX : s.applyReset.gainX = 0 := rfl
@[simp] theorem State.applyReset_gainY : s.applyReset.gainY = 0 := rfl
@[simp] theorem State.applyReset_spin : s.applyReset.spin = 0 := rfl
@[simp] theorem State.applyReset_chan : s.applyReset.chan = 0 := rfl
@[simp] theorem State.applyReset_duty : s.applyReset.duty = stopDuty s.params := rfl
@[simp] theorem State.applyReset_cfgDone : s.applyReset.cfgDone = false := rfl
@[simp] theorem State.applyReset_mode : s.applyReset.mode = .stopped := rfl
@[simp] theorem State.applyReset_latch : s.applyReset.latch = none := rfl
@[simp] theorem State.applyReset_sinkPort : s.applyReset.sinkPort = none := rfl
@[simp] theorem State.applyReset_cmdIndex : s.applyReset.cmdIndex = 0 := rfl
@[simp] theorem State.applyReset_sinkLog : s.applyReset.sinkLog = s.sinkLog := rfl
@[simp] theorem State.applyReset_inputs : s.applyReset.inputs = s.inputs := rfl
@[simp] theorem State.applyReset_params : s.applyReset.params = s.params := rfl

/-! ### endCycle -/

@[simp] theorem State.endCycle_gainX : s.endCycle.gainX = s.gainX := rfl
@[simp] theorem State.endCycle_gainY : s.endCycle.gainY = s.gainY := rfl
@[simp] theorem State.endCycle_spin : s.endCycle.spin = s.spin := rfl
@[simp] theorem State.endCycle_chan : s.endCycle.chan = s.chan := rfl
@[simp] theorem State.endCycle_duty : s.endCycle.duty = s.duty := rfl
@[simp] theorem State.endCycle_cfgDone : s.endCycle.cfgDone = s.cfgDone := rfl
@[simp] theorem State.endCycle_mode : s.endCycle.mode = s.mode := rfl
@[simp] theorem State.endCycle_latch : s.endCycle.latch = s.latch := rfl
@[simp] theorem State.endCycle_sinkPort : s.endCycle.sinkPort = none := rfl
@[simp] theorem State.endCycle_cmdIndex : s.endCycle.cmdIndex = s.cmdIndex := rfl
@[simp] theorem State.endCycle_sinkLog : s.endCycle.sinkLog = s.sinkLog := rfl
@[simp] theorem State.endCycle_inputs : s.endCycle.inputs = s.inputs := rfl
@[simp] theorem State.endCycle_params : s.endCycle.params = s.params := rfl

/-! ### accept -/

@[simp] theorem State.accept_gainX : s.accept.gainX = s.gainX := rfl
@[simp] theorem State.accept_gainY : s.accept.gainY = s.gainY := rfl
@[simp] theorem State.accept_spin : s.accept.spin = s.spin := rfl
@[simp] theorem State.accept_chan : s.accept.chan = s.chan := rfl
@[simp] theorem State.accept_duty : s.accept.duty = s.duty := rfl
@[simp] theorem State.accept_cfgDone : s.accept.cfgDone = s.cfgDone := rfl
@[simp] theorem State.accept_mode : s.accept.mode = s.mode := rfl
@[simp] theorem State.accept_latch : s.accept.latch = s.latch := rfl
@[simp] theorem State.accept_sinkPort : s.accept.sinkPort = none := rfl
@[simp] theorem State.accept_cmdIndex : s.accept.cmdIndex = s.cmdIndex + 1 := rfl
@[simp] theorem State.accept_sinkLog : s.accept.sinkLog = s.sinkLog := rfl
@[simp] theorem State.accept_inputs : s.accept.inputs = s.inputs := rfl
@[simp] theorem State.accept_params : s.accept.params = s.params := rfl

/-! ### setInputs -/

@[simp] theorem State.setInputs_gainX (rest : List HostInput) : (s.setInputs rest).gainX = s.gainX := rfl
@[simp] theorem State.setInputs_gainY (rest : List HostInput) : (s.setInputs rest).gainY = s.gainY := rfl
@[simp] theorem State.setInputs_spin (rest : List HostInput) : (s.setInputs rest).spin = s.spin := rfl
@[simp] theorem State.setInputs_chan (rest : List HostInput) : (s.setInputs rest).chan = s.chan := rfl
@[simp] theorem State.setInputs_duty (rest : List HostInput) : (s.setInputs rest).duty = s.duty := rfl
@[simp] theorem State.setInputs_cfgDone (rest : List HostInput) : (s.setInputs rest).cfgDone = s.cfgDone := rfl
@[simp] theorem State.setInputs_mode (rest : List HostInput) : (s.setInputs rest).mode = s.mode := rfl
@[simp] theorem State.setInputs_latch (rest : List HostInput) : (s.setInputs rest).latch = s.latch := rfl
@[simp] theorem State.setInputs_sinkPort (rest : List HostInput) : (s.setInputs rest).sinkPort = s.sinkPort := rfl
@[simp] theorem State.setInputs_cmdIndex (rest : List HostInput) : (s.setInputs rest).cmdIndex = s.cmdIndex := rfl
@[simp] theorem State.setInputs_sinkLog (rest : List HostInput) : (s.setInputs rest).sinkLog = s.sinkLog := rfl
@[simp] theorem State.setInputs_inputs (rest : List HostInput) : (s.setInputs rest).inputs = rest := rfl
@[simp] theorem State.setInputs_params (rest : List HostInput) : (s.setInputs rest).params = s.params := rfl

/-! ### Derived views -/

theorem State.busy_eq : s.busy = s.latch.isSome := rfl

theorem State.busy_eq_false_iff : s.busy = false ↔ s.latch = none := by
  simp [State.busy]

theorem State.cmdReady_false_eq : s.cmdReady false = !s.busy := by
  simp [State.cmdReady]

theorem State.cmdReady_true : s.cmdReady true = false := rfl

end Sys2Proof.Machine
end

