-- ==== Sys2Proof/Laws/Exec.lean ====
section
/-! SUPPORT. What a command, a step and a clock edge can do, said once: later proofs cite these cases instead of
unfolding exec, step or clockEdge. -/

namespace Sys2Proof.Machine

theorem configResult?_eq_some {s : State} {mx my : F32} {g : Int × Int} (h : s.configResult? mx my = some g) :
    s.cfgDone = false ∧ configGains s.params mx my = some g := by
  unfold State.configResult? at h
  split at h
  · cases h
  · exact ⟨by simpa using ‹¬ s.cfgDone = true›, h⟩

theorem configResult?_of_finite {s : State} {mx my : F32} {x y : Int} (hc : s.cfgDone = false)
    (hx : f32val mx = some x) (hy : f32val my = some y) :
    s.configResult? mx my = some (normVec (epsUnits s.params) x y) := by
  simp [State.configResult?, hc, configGains, hx, hy]

theorem execConfig_performed {chan : Byte} {spin : Half} {mx my : F32} {s : State} {g : Int × Int}
    (h : s.configResult? mx my = some g) :
    execConfig chan spin mx my s = .next (s.performConfig g.1 g.2 spin chan) := by
  simp [execConfig, h]

theorem execConfig_ignored {chan : Byte} {spin : Half} {mx my : F32} {s : State}
    (h : s.configResult? mx my = none) : execConfig chan spin mx my s = .next s := by
  simp [execConfig, h]

theorem execUpdate_performed {cx cy cyaw thr : Half} {s : State} (h : s.cfgDone = true) :
    execUpdate cx cy cyaw thr s = .next (s.drive .running s.chan (s.mix cx cy cyaw thr)) := by
  simp [execUpdate, h]

theorem execStop_performed {s : State} (h : s.cfgDone = true) :
    execStop s = .next (s.drive .stopped s.chan (stopDuty s.params)) := by
  simp [execStop, h]

/-- CONFIG either is performed or has no effect. -/
theorem execConfig_cases {chan : Byte} {spin : Half} {mx my : F32} {s t : State}
    (h : execConfig chan spin mx my s = .next t) :
    (∃ g, s.configResult? mx my = some g ∧ t = s.performConfig g.1 g.2 spin chan) ∨
    (s.configResult? mx my = none ∧ t = s) := by
  unfold execConfig at h
  split at h <;> cases h
  · exact .inl ⟨_, ‹_›, rfl⟩
  · exact .inr ⟨‹_›, rfl⟩

/-- UPDATE either is performed or has no effect. -/
theorem execUpdate_cases {cx cy cyaw thr : Half} {s t : State} (h : execUpdate cx cy cyaw thr s = .next t) :
    (s.cfgDone = true ∧ t = s.drive .running s.chan (s.mix cx cy cyaw thr)) ∨ (s.cfgDone = false ∧ t = s) := by
  unfold execUpdate at h
  split at h <;> cases h
  · exact .inl ⟨‹_›, rfl⟩
  · exact .inr ⟨by simpa using ‹¬ s.cfgDone = true›, rfl⟩

/-- STOP either is performed or has no effect. -/
theorem execStop_cases {s t : State} (h : execStop s = .next t) :
    (s.cfgDone = true ∧ t = s.drive .stopped s.chan (stopDuty s.params)) ∨ (s.cfgDone = false ∧ t = s) := by
  unfold execStop at h
  split at h <;> cases h
  · exact .inl ⟨‹_›, rfl⟩
  · exact .inr ⟨by simpa using ‹¬ s.cfgDone = true›, rfl⟩

/-- Everything a command can do: nothing, or a performed CONFIG, UPDATE or STOP. -/
theorem exec_cases {i : Instr} {s t : State} (h : exec i s = .next t) :
    t = s ∨
    (∃ chan spin mx my g, i = .config chan spin mx my ∧ s.configResult? mx my = some g ∧
      t = s.performConfig g.1 g.2 spin chan) ∨
    (∃ cx cy cyaw thr, i = .update cx cy cyaw thr ∧ s.cfgDone = true ∧
      t = s.drive .running s.chan (s.mix cx cy cyaw thr)) ∨
    (i = .stop ∧ s.cfgDone = true ∧ t = s.drive .stopped s.chan (stopDuty s.params)) := by
  cases i with
  | config chan spin mx my =>
    obtain ⟨g, hg, rfl⟩ | ⟨_, rfl⟩ := execConfig_cases h
    · exact .inr (.inl ⟨_, _, _, _, g, rfl, hg, rfl⟩)
    · exact .inl rfl
  | update cx cy cyaw thr =>
    obtain ⟨hc, rfl⟩ | ⟨_, rfl⟩ := execUpdate_cases h
    · exact .inr (.inr (.inl ⟨_, _, _, _, rfl, hc, rfl⟩))
    · exact .inl rfl
  | stop =>
    obtain ⟨hc, rfl⟩ | ⟨_, rfl⟩ := execStop_cases h
    · exact .inr (.inr (.inr ⟨rfl, hc, rfl⟩))
    · exact .inl rfl
  | _ => cases h; exact .inl rfl

/-- A CONFIG in progress completes with its writes, or its latch is emptied. -/
theorem finishConfig_cases (s : State) (c : ConfigInFlight) :
    (∃ g, s.configResult? c.ops.mx c.ops.my = some g ∧
      s.finishConfig c = s.performConfig g.1 g.2 c.ops.spin c.ops.chan) ∨
    (s.configResult? c.ops.mx c.ops.my = none ∧ s.finishConfig c = { s with latch := none }) := by
  unfold State.finishConfig
  split
  · exact .inl ⟨_, ‹_›, rfl⟩
  · exact .inr ⟨‹_›, rfl⟩

/-- With no CONFIG in progress, a step on a command word accepts it. -/
theorem step_command {s : State} {w : CmdWord} {rest : List HostInput} (hl : s.latch = none)
    (hi : s.inputs = .command w :: rest) : step s = exec (decodeWord w) (s.setInputs rest).accept := by
  unfold step; rw [hi, hl]

/-- A step on a reset edge. -/
theorem step_reset {s : State} {rest : List HostInput} (hi : s.inputs = .reset :: rest) :
    step s = .next (s.setInputs rest).applyReset := by
  unfold step; rw [hi]

/-- A step with nothing to do. -/
theorem step_idle {s : State} (hl : s.latch = none) (hi : s.inputs = []) : step s = .next s.endCycle := by
  unfold step; rw [hi, hl]

/-- A clock edge at which a command is accepted. -/
theorem clockEdge_accept {s : State} (hl : s.latch = none) (w : CmdWord) :
    clockEdge ⟨false, true, w⟩ s = s.accept.executeAtEdge (decodeWord w) := by
  unfold clockEdge; rw [hl]; rfl

/-- A clock edge at which none is presented. -/
theorem clockEdge_idle {s : State} (hl : s.latch = none) (w : CmdWord) :
    clockEdge ⟨false, false, w⟩ s = .next s.endCycle := by
  unfold clockEdge; rw [hl]; rfl

/-- A clock edge while BUSY = 1. -/
theorem clockEdge_busy {s : State} {c : ConfigInFlight} {p : Pins} (hr : p.rst = false) (hl : s.latch = some c) :
    clockEdge p s = .next (s.endCycle.advanceConfig c) := by
  unfold clockEdge; rw [hl, hr]; rfl

/-- Everything a step can do: a reset edge, the completion of a CONFIG in progress, an accepted command, or nothing. -/
theorem step_cases {s t : State} (h : step s = .next t) :
    (∃ rest, s.inputs = .reset :: rest ∧ t = (s.setInputs rest).applyReset) ∨
    (∃ c, s.latch = some c ∧ (∀ rest, s.inputs ≠ .reset :: rest) ∧ t = s.endCycle.finishConfig c) ∨
    (∃ w rest, s.latch = none ∧ s.inputs = .command w :: rest ∧
      exec (decodeWord w) (s.setInputs rest).accept = .next t) ∨
    (s.latch = none ∧ s.inputs = [] ∧ t = s.endCycle) := by
  unfold step at h
  split at h
  · cases h; exact .inl ⟨_, ‹_›, rfl⟩
  · cases h; exact .inr (.inl ⟨_, ‹_›, by simp [*], rfl⟩)
  · cases h; exact .inr (.inl ⟨_, ‹_›, by simp [*], rfl⟩)
  · exact .inr (.inr (.inl ⟨_, _, ‹_›, ‹_›, h⟩))
  · cases h; exact .inr (.inr (.inr ⟨‹_›, ‹_›, rfl⟩))

/-- The accepting edge of a command: the start of a CONFIG of several edges, or the command itself. -/
theorem executeAtEdge_cases {s t : State} {i : Instr} (h : s.executeAtEdge i = .next t) :
    (∃ ops, i.configOperands? = some ops ∧ (s.configResult? ops.mx ops.my).isSome = true ∧
      1 < s.params.configLatency ∧
      t = { s with latch := some { ops := ops, edgesLeft := s.params.configLatency - 1 } }) ∨
    exec i s = .next t := by
  cases i with
  | config chan spin mx my =>
    simp only [State.executeAtEdge, Instr.configOperands?, State.beginConfig] at h
    split at h
    next hb =>
      cases h
      rw [Bool.and_eq_true, decide_eq_true_eq] at hb
      exact .inl ⟨_, rfl, hb.1, hb.2, rfl⟩
    next => exact .inr h
  | _ => exact .inr h

/-- A CONFIG that will not be performed stores no gains (R107, R108). -/
theorem configResult?_eq_none {s : State} {mx my : F32}
    (h : s.cfgDone = true ∨ f32val mx = none ∨ f32val my = none) : s.configResult? mx my = none := by
  cases hr : s.configResult? mx my with
  | none => rfl
  | some g =>
    obtain ⟨hc, hg⟩ := configResult?_eq_some hr
    unfold configGains at hg
    obtain h | h | h := h
    · simp [hc] at h
    · simp [h] at hg
    · cases hx : f32val mx <;> simp [h, hx] at hg

/-- The accepting edge of every command but a performed CONFIG is the command itself. -/
theorem executeAtEdge_eq_exec {s : State} {i : Instr}
    (h : ∀ ops, i.configOperands? = some ops → s.configResult? ops.mx ops.my = none) :
    s.executeAtEdge i = exec i s := by
  cases i with
  | config chan spin mx my =>
    simp only [State.executeAtEdge, Instr.configOperands?, State.beginConfig, h _ rfl, Option.isSome_none,
      Bool.false_and, Bool.false_eq_true, if_false, exec]
  | _ => rfl

/-- Everything a clock edge can do: reset, one edge of a CONFIG in progress, an accepted command, or nothing. -/
theorem clockEdge_cases {p : Pins} {s t : State} (h : clockEdge p s = .next t) :
    (p.rst = true ∧ t = s.applyReset) ∨
    (p.rst = false ∧ ∃ c, s.latch = some c ∧ t = s.endCycle.advanceConfig c) ∨
    (p.rst = false ∧ s.latch = none ∧ p.cmdValid = true ∧ s.accept.executeAtEdge (decodeWord p.cmdWord) = .next t) ∨
    (p.rst = false ∧ s.latch = none ∧ p.cmdValid = false ∧ t = s.endCycle) := by
  unfold clockEdge at h
  split at h
  · cases h; exact .inl ⟨‹_›, rfl⟩
  · have hr : p.rst = false := by simpa using ‹¬ p.rst = true›
    split at h
    · cases h; exact .inr (.inl ⟨hr, _, ‹_›, rfl⟩)
    · split at h
      · exact .inr (.inr (.inl ⟨hr, ‹_›, ‹_›, h⟩))
      · cases h
        exact .inr (.inr (.inr ⟨hr, ‹_›, by simpa using ‹¬ p.cmdValid = true›, rfl⟩))

end Sys2Proof.Machine
end

