-- ==== Sys2Proof/Laws/PerInstr.lean ====
section
/-! SUPPORT. Facts about every command as syntax, one lemma per constructor. Family OpField: the word of a command carries
the command's OP value in its bits 3:0 (R71, R75). -/

namespace Sys2Proof.Laws.OpField

/-- The low four bits of the command's word are its OP. -/
def Statement (i : Instr) : Prop := opField (encode i) = i.op

theorem opField_append (b : BitVec 92) (o : BitVec 4) : opField (b ++ o) = o := by
  refine BitVec.eq_of_getLsbD_eq fun j hj => ?_
  simp only [opField, field, BitVec.getLsbD_extractLsb', BitVec.getLsbD_append, Nat.zero_add, hj, decide_true,
    Bool.true_and, if_true]

theorem config (chan : Byte) (spin : Half) (mx my : F32) : Statement (.config chan spin mx my) :=
  opField_append _ _

theorem update (cx cy cyaw thr : Half) : Statement (.update cx cy cyaw thr) := opField_append _ _

theorem stop : Statement .stop := opField_append _ _

theorem reserved0 : Statement .reserved0 := opField_append _ _

theorem reserved4 : Statement .reserved4 := opField_append _ _

theorem reserved5 : Statement .reserved5 := opField_append _ _

theorem reserved6 : Statement .reserved6 := opField_append _ _

theorem reserved7 : Statement .reserved7 := opField_append _ _

theorem reserved8 : Statement .reserved8 := opField_append _ _

theorem reserved9 : Statement .reserved9 := opField_append _ _

theorem reservedA : Statement .reservedA := opField_append _ _

theorem reservedB : Statement .reservedB := opField_append _ _

theorem reservedC : Statement .reservedC := opField_append _ _

theorem reservedD : Statement .reservedD := opField_append _ _

theorem reservedE : Statement .reservedE := opField_append _ _

theorem reservedF : Statement .reservedF := opField_append _ _

end Sys2Proof.Laws.OpField
end

