-- ==== Sys2Proof/Tests/Slice0.lean ====
section
/-! SUPPORT. Tests of the model against the vectors of 95_test_vectors.md, an ill-formed term for each check of
WellFormed.lean and Config.lean, and a witness for the hypotheses of every statement of Obligations.lean. Every expected
value comes from spec/, and each comment names its table. -/

namespace Sys2Proof.Tests

open Sys2Proof.Machine

/-! ## Helpers -/

/-- The next state of an outcome, if it is one. -/
def after : Host.Outcome State Fault Refusal → Option State
  | .next t => some t
  | .fault _ => none
  | .refused _ => none

/-- A configured block of the reference instance with the given gains and spin, on channel 3, Stopped. -/
def motor (gx gy spin : Half) : State :=
  { State.reset with gainX := gx, gainY := gy, spin := spin, chan := 3, cfgDone := true }

/-- The same block with the other yaw policy. -/
def multiplyParams : Params :=
  { Config.reference with yawMode := .multiply, valid := by decide }

/-- The reference instance with CONFIG_LATENCY = 3 (95_test_vectors.md section 8). -/
def slowParams : Params :=
  { Config.reference with configLatency := 3, valid := by decide }

/-- The duty of one UPDATE in a state. -/
def dutyAfter (s : State) (cx cy cyaw thr : Half) : Option Byte :=
  (after (exec (.update cx cy cyaw thr) s)).map fun t => t.duty

/-- The state after presenting a word to the machine and making one step. -/
def stepWord (s : State) (w : CmdWord) : Option State := after (step (s.withFetchWord 96 w.toNat))

/-- The gains after a CONFIG from reset. -/
def gainsAfter (mx my : F32) : Option (Int × Int) :=
  (after (exec (.config 0 1 mx my) State.reset)).map fun t => (t.gainX.toInt, t.gainY.toInt)

/-- The three words of 95_test_vectors.md section 8. -/
def wConfig : CmdWord := 0x000000003F80000000010301#96
def wUpdate : CmdWord := 0x000005DC0032000000640002#96
def wStop : CmdWord := 0x000000000000000000000003#96

/-! ## WellFormed: an ill-formed term for each check (30_encoding.md rules R82, R83) -/

theorem test_wf_accepts_a_line : (AsmLine.config (.dec 255) (.dec (-32768)) (.dec true 1 0) (.raw 0x7FC00000)).WellFormed := by
  decide
theorem test_wf_refuses_chan_high : ¬ (AsmLine.config (.dec 256) (.dec 1) (.raw 0) (.raw 0)).WellFormed := by decide
theorem test_wf_refuses_chan_negative : ¬ (AsmLine.config (.dec (-1)) (.dec 1) (.raw 0) (.raw 0)).WellFormed := by decide
theorem test_wf_refuses_chan_raw : ¬ (AsmLine.config (.hex 0x100) (.dec 1) (.raw 0) (.raw 0)).WellFormed := by decide
theorem test_wf_refuses_spin_high : ¬ (AsmLine.config (.dec 0) (.dec 32768) (.raw 0) (.raw 0)).WellFormed := by decide
theorem test_wf_refuses_spin_raw : ¬ (AsmLine.config (.dec 0) (.hex 0x10000) (.raw 0) (.raw 0)).WellFormed := by decide
theorem test_wf_refuses_real_too_large :
    ¬ (AsmLine.config (.dec 0) (.dec 1) (.dec false 4 38) (.raw 0)).WellFormed ∧
    ¬ (AsmLine.config (.dec 0) (.dec 1) (.raw 0) (.dec true 4 38)).WellFormed := by
  decide +kernel
theorem test_wf_refuses_update_operands :
    ¬ (AsmLine.update (.dec 32768) (.dec 0) (.dec 0) (.dec 0)).WellFormed ∧
    ¬ (AsmLine.update (.dec 0) (.dec (-32769)) (.dec 0) (.dec 0)).WellFormed ∧
    ¬ (AsmLine.update (.dec 0) (.dec 0) (.hex 0x10000) (.dec 0)).WellFormed ∧
    ¬ (AsmLine.update (.dec 0) (.dec 0) (.dec 0) (.dec 40000)).WellFormed := by decide
theorem test_wf_refuses_word97 : ¬ (AsmLine.word96 0x1000000000000000000000000).WellFormed := by decide

/-- Each clause of R6 and R101 refuses a parameter set; the reference set is built. -/
theorem test_parameters_refused :
    (Params.build? Config.reference.toParamValues).isSome = true ∧
    Params.build? { Config.reference.toParamValues with pulseStop := -1 } = none ∧
    Params.build? { Config.reference.toParamValues with pulseStop := 1101 } = none ∧
    Params.build? { Config.reference.toParamValues with pulseFloor := 2001 } = none ∧
    Params.build? { Config.reference.toParamValues with pulseCeiling := 2048 } = none ∧
    Params.build? { Config.reference.toParamValues with configLatency := 0 } = none ∧
    Params.build? { Config.reference.toParamValues with degenEps := 0x7FC00000 } = none ∧
    Params.build? { Config.reference.toParamValues with degenEps := 0x7F800000 } = none ∧
    Params.build? { Config.reference.toParamValues with degenEps := 0xBC23D70A } = none := by decide

/-! ## Decoding (95_test_vectors.md section 2, 30_encoding.md rules R72 to R76) -/

theorem test_decode_config :
    decodeWord 0x3F8000007FC00000FFFF0501#96 = .config 5 0xFFFF 0x7FC00000 0x3F800000 ∧
    decodeWord 0x0000000000000000FFFD0101#96 = .config 1 0xFFFD 0 0 := by decide
theorem test_decode_config_ignores_rsv :
    decodeWord 0x408000004040000000010001#96 = .config 0 1 0x40400000 0x40800000 ∧
    decodeWord 0x4080000040400000000100F1#96 = .config 0 1 0x40400000 0x40800000 := by decide
theorem test_decode_update :
    decodeWord 0x00000578FFD8FF9C00C80002#96 = .update 200 0xFF9C 0xFFD8 1400 ∧
    decodeWord 0xFFFF05DC001E00640064FFF2#96 = .update 100 100 30 1500 := by decide
theorem test_decode_stop : decodeWord 0xFFFFFFFFFFFFFFFFFFFFFFF3#96 = .stop := by decide
theorem test_decode_reserved :
    [0x0, 0x4, 0x5, 0x6, 0x7, 0x8, 0x9, 0xA, 0xB, 0xC, 0xD, 0xE, 0xF].map (fun n => decodeWord (BitVec.ofNat 96 n)) =
      [.reserved0, .reserved4, .reserved5, .reserved6, .reserved7, .reserved8, .reserved9, .reservedA, .reservedB,
        .reservedC, .reservedD, .reservedE, .reservedF] := by decide
theorem test_decode_reserved_ignores_the_rest :
    decodeWord 0x000005DC0032000000640004#96 = .reserved4 ∧ decodeWord 0xFFFFFFFFFFFFFFFFFFFFFFFF#96 = .reservedF := by
  decide

theorem test_encode :
    encode (.config 3 0xFFFF 0x3F800000 0) = 0x000000003F800000FFFF0301#96 ∧
    encode (.update 0xFF9C 0 0xFFCE 1000) = 0x000003E8FFCE0000FF9C0002#96 ∧
    encode .stop = wStop ∧ encode .reservedC = 0xC#96 := by decide

/-- The "bytes 0..11" column, and a list of the wrong length. -/
theorem test_bytes :
    wordBytes 0x3F800000BF800000FFFF0001#96 =
      [0x01, 0x00, 0xFF, 0xFF, 0x00, 0x00, 0x80, 0xBF, 0x00, 0x00, 0x80, 0x3F] ∧
    decodeBytes [0x02, 0x00, 0x9C, 0xFF, 0x00, 0x00, 0xCE, 0xFF, 0xE8, 0x03, 0x00, 0x00] =
      .ok (.update 0xFF9C 0 0xFFCE 1000) ∧
    decodeBytes [0x03] = .error (.wrongLength 1) := by decide

theorem test_table_word :
    decodeTableWord 96 0x000000003F80000000010301 = some (.config 3 1 0x3F800000 0) ∧
    decodeTableWord 8 0xF3 = some .stop ∧ decodeTableWord 96 0xE = some .reservedE := by decide

/-- What withFetchWord presents is what the next step runs, for each command that does something. -/
theorem test_fetch_config :
    (stepWord State.reset wConfig).map (fun t => (t.gainX, t.chan, t.cfgDone, t.cmdIndex)) = some (32767, 3, true, 1) := by
  decide
theorem test_fetch_update_and_stop :
    (stepWord (motor 32767 0 1) wUpdate).map (fun t => (t.duty, t.mode)) = some (206, .running) ∧
    (stepWord (motor 32767 0 1) wStop).map (fun t => (t.duty, t.mode)) = some (125, .stopped) := by decide

/-! ## Binary32 and NORM (95_test_vectors.md sections 2 and 3) -/

theorem test_f32_values :
    f32val 0x3F800000 = some (2 ^ 149) ∧ f32val 0xBF800000 = some (-2 ^ 149) ∧ f32val 0x80000000 = some 0 ∧
    f32val 0x00000001 = some 1 ∧ f32val 0x7F7FFFFF = some ((2 ^ 24 - 1) * 2 ^ 253) ∧
    f32val 0x3C23D70A = some (5368709 * 2 ^ 120) := by decide
theorem test_f32_nonfinite :
    [0x7F800000, 0xFF800000, 0x7FC00000, 0x7F800001, 0xFFFFFFFF].map f32val = [none, none, none, none, none] := by decide

theorem test_norm_general :
    gainsAfter 0x40400000 0x40800000 = some (19660, 26213) ∧ gainsAfter 0xC0400000 0xC0800000 = some (-19660, -26213) ∧
    gainsAfter 0x3A83126F 0x3C1BA5E3 = some (3430, 32586) ∧ gainsAfter 0x7F167699 0x7F61B1E6 = some (18175, 27263) := by
  decide
theorem test_norm_truncates : gainsAfter 0x3F800000 0xB58637BD = some (32766, 0) ∧
    gainsAfter 0x0DA24260 0x3F800000 = some (0, 32766) := by decide
theorem test_norm_degenerate :
    gainsAfter 0x3BA3D70A 0x3BA3D70A = some (0, 0) ∧ gainsAfter 0x00000000 0xBC23D70A = some (0, 0) ∧
    gainsAfter 0x3C23D776 0 = some (32767, 0) ∧ gainsAfter 0x80000000 0x40A00000 = some (0, 32767) := by decide

/-! ## The datapath (95_test_vectors.md section 4) -/

theorem test_mulh :
    mulh 200 32767 = 99 ∧ mulh (-200) 32767 = -100 ∧ mulh (-32768) (-32768) = 16384 ∧ mulh 32767 32767 = 16383 ∧
    mulh (-2) 32767 = -1 ∧ mulh 256 256 = 1 ∧ mulh (-256) 256 = -1 ∧ mulh (-257) 256 = -2 := by decide
theorem test_dbl :
    dbl (-100) = -200 ∧ dbl 16383 = 32766 ∧ dbl 16384 = -32768 ∧ dbl (-16384) = -32768 ∧ dbl (-16385) = 32766 := by decide

/-! ## CONFIG (95_test_vectors.md section 3) -/

theorem test_config_performed :
    (after (exec (.config 3 0xFFFD 0x3F800000 0) State.reset)).map (fun t =>
      (t.observe, t.sinkPort, t.sinkLog)) =
      some ({ gainX := 32767, gainY := 0, spin := 0xFFFD, chan := 3, duty := 125, cfgDone := 1, mode := 0 },
        some { chan := 3, duty := 125 }, [{ chan := 3, duty := 125 }]) := by decide
theorem test_config_no_effect :
    after (exec (.config 5 0xFFFF 0x3F800000 0x7F800000) State.reset) = some State.reset ∧
    after (exec (.config 6 0xFFFF 0 0x3F800000) (motor 32767 0 1)) = some (motor 32767 0 1) := by decide

/-! ## UPDATE (95_test_vectors.md section 5) -/

theorem test_update_sign :
    dutyAfter (motor 32767 0 0) 100 0 50 1500 = some 193 ∧ dutyAfter (motor 32767 0 1) (-100) 0 50 1500 = some 181 ∧
    dutyAfter (motor (-23169) 23169 (-1)) 100 100 30 1500 = some 183 ∧
    dutyAfter (motor 19660 26213 1) 200 (-100) (-40) 1400 = some 174 ∧
    dutyAfter (motor 32767 0 1) 16384 0 0 1500 = some 137 ∧ dutyAfter (motor 32767 0 1) 0 0 0 1107 = some 138 ∧
    dutyAfter (motor 32767 0 1) 100 0 50 32767 = some 250 := by decide
theorem test_update_multiply :
    dutyAfter { motor 32767 0 2 with params := multiplyParams } 0 0 100 1500 = some 212 ∧
    dutyAfter { motor 32767 0 (-3) with params := multiplyParams } 0 0 100 1500 = some 150 ∧
    dutyAfter { motor 32767 0 0 with params := multiplyParams } 0 0 100 1500 = some 187 ∧
    dutyAfter { motor 32767 0 (-32768) with params := multiplyParams } 0 0 (-32768) 0 = some 250 := by decide

/-- ACC at its extremes (section 5). -/
theorem test_accumulator :
    accumulate .sign 32767 32767 1 32767 32767 (-32768) 32767 = -3 ∧
    accumulate .sign (-32767) (-32767) (-1) (-32768) (-32768) (-32768) (-32768) = 0 ∧
    accumulate .multiply 32767 0 32767 0 0 (-32768) 32767 = -1073676289 := by decide

/-! ## STOP, ignored commands, reset (95_test_vectors.md sections 6 and 7) -/

theorem test_stop :
    (after (exec .stop { motor 32767 0 1 with mode := .running, duty := 206 })).map (fun t => (t.mode, t.duty, t.sinkLog)) =
      some (.stopped, 125, [{ chan := 3, duty := 125 }]) := by decide
theorem test_unconfigured :
    after (exec (.update 100 0 50 1500) State.reset) = some State.reset ∧ after (exec .stop State.reset) = some State.reset := by
  decide
theorem test_reserved_word :
    (stepWord (motor 32767 0 1) 0xFFFFFFFFFFFFFFFFFFFFFFFF#96).map (fun t => (t.duty, t.sinkLog, t.cmdIndex)) =
      some (125, [], 1) := by decide
theorem test_reset_edge :
    (after (step { motor 32767 5 1 with mode := .running, duty := 206, inputs := [.reset] })).map (fun t => t.observe) =
      some { gainX := 0, gainY := 0, spin := 0, chan := 0, duty := 125, cfgDone := 0, mode := 0 } := by decide

/-! ## The cycle level (95_test_vectors.md section 8: CONFIG_LATENCY = 3) -/

/-- The state after edges e0, e1, e2, e3, ... of the vector. -/
def edges (ps : List Pins) : Option State := after (runEdges ps (State.resetWith slowParams))

theorem test_cycle_busy :
    (edges [⟨false, true, wConfig⟩, ⟨false, true, wUpdate⟩]).map (fun t => (t.busy, t.cfgDone, t.sinkWe, t.cmdIndex)) =
      some (true, false, false, 1) := by decide
theorem test_cycle_completes :
    (edges [⟨false, true, wConfig⟩, ⟨false, true, wUpdate⟩, ⟨false, true, wUpdate⟩]).map (fun t =>
      (t.busy, t.gainX, t.chan, t.sinkPort, t.cmdIndex)) = some (false, 32767, 3, some { chan := 3, duty := 125 }, 1) := by
  decide
theorem test_cycle_next_commands :
    (edges [⟨false, true, wConfig⟩, ⟨false, true, wUpdate⟩, ⟨false, true, wUpdate⟩, ⟨false, true, wUpdate⟩]).map (fun t =>
      (t.mode, t.sinkPort)) = some (.running, some { chan := 3, duty := 206 }) ∧
    (edges [⟨false, true, wConfig⟩, ⟨false, false, 0⟩, ⟨false, false, 0⟩, ⟨false, true, wUpdate⟩, ⟨false, true, wStop⟩,
      ⟨false, false, 0⟩]).map (fun t => (t.mode, t.sinkPort, t.sinkLog)) =
      some (.stopped, none, [{ chan := 3, duty := 125 }, { chan := 3, duty := 206 }, { chan := 3, duty := 125 }]) := by decide

/-! ## The assembler (95_test_vectors.md section 2; 30_encoding.md rules R82, R83) -/

theorem test_assemble_config :
    assembleText "CONFIG 3, 1, 1.0, 0.0 ; the section 8 motor" = .ok [0x000000003F80000000010301#96] ∧
    assembleText "CONFIG 5, -1, 0f7FC00000, 1.0" = .ok [0x3F8000007FC00000FFFF0501#96] := by decide
theorem test_assemble_literals :
    assembleText "CONFIG 0, 1, 1.0, -1e-6" = .ok [0xB58637BD3F80000000010001#96] ∧
    assembleText "CONFIG 0, 1, 2e38, 3e38" = .ok [0x7F61B1E67F16769900010001#96] ∧
    assembleText "CONFIG 0, 1, -0.0, 0.0095" = .ok [0x3C1BA5E38000000000010001#96] := by
  decide +kernel
theorem test_assemble_program :
    assembleText "UPDATE -100, 0, -50, 1000\nSTOP\n\n.word96 0xFFFF05DC001E00640064FFF2\n" =
      .ok [0x000003E8FFCE0000FF9C0002#96, 0x000000000000000000000003#96, 0xFFFF05DC001E00640064FFF2#96] := by decide
theorem test_assemble_errors :
    assembleText "UPDATE 0, 0, 0, 32768" = .error .intOutOfRange ∧
    assembleText "CONFIG 256, 1, 1.0, 0.0" = .error .chanOutOfRange ∧
    assembleText "CONFIG 0, 1, 3.5e38, 0.0" = .error .realOutOfRange ∧ assembleText "NOP" = .error .badLine := by
  decide +kernel

/-! ## Witnesses: a concrete state and operands that meet the hypotheses of each statement of Obligations.lean, at the
boundary values of its clauses. Each is named after its statement. -/

/-- The block of the vectors' configured rows: channel 3, Running with DUTY = 206, one pre-set write and one UPDATE made. -/
def running : State :=
  { motor 32767 0 1 with
    mode := .running, duty := 206
    sinkLog := [{ chan := 3, duty := 125 }, { chan := 3, duty := 206 }] }

/-- An instance with CONFIG_LATENCY = 3 whose CONFIG is in progress. -/
def configuring : State :=
  { State.resetWith slowParams with
    latch := some { ops := { chan := 3, spin := 1, mx := 0x3F800000, my := 0 }, edgesLeft := 2 } }

theorem reset_inv : State.reset.Inv :=
  ⟨fun _ => (by decide), (by unfold State.gainsInRange; decide), rfl, fun _ h => (by cases h), fun _ h => (by cases h)⟩

theorem running_inv : running.Inv :=
  ⟨fun h => (by cases h), (by unfold State.gainsInRange; decide),
    (show floorDuty running.params ≤ running.duty ∧ running.duty ≤ ceilingDuty running.params by decide),
    fun _ h => (by cases h), fun w hw => (by unfold legalDuty; revert w; decide)⟩

theorem configuring_inv : configuring.Inv :=
  ⟨fun _ => (by decide), (by unfold State.gainsInRange; decide), rfl,
    fun c h => (by cases h; decide), fun _ h => (by cases h)⟩

theorem test_witness_OperandFieldsSitAtTheirBits :
    wConfig.toNat % 16 = 1 ∧ wUpdate.toNat % 16 = 2 ∧ wStop.toNat % 16 = 3 := by decide
theorem test_witness_OperandsAreReadSignedOrUnsigned :
    (0x000000003F8000007FFFFF01#96).toNat % 16 = 1 ∧ (0x3F800000BF8000008000FF01#96).toNat % 16 = 1 ∧
    (0x00007FFF80007FFF80000002#96).toNat % 16 = 2 := by decide
theorem test_witness_ReservedBitsAreIgnored :
    (wConfig &&& 0xF#96 = 0x1#96 ∧ (wConfig ^^^ 0x000000003F800000000103F1#96) &&& ~~~ 0x0000000000000000000000F0#96 = 0#96) ∧
    (wUpdate &&& 0xF#96 = 0x2#96 ∧ (wUpdate ^^^ 0xFFFF05DC003200000064FFF2#96) &&& ~~~ 0xFFFF0000000000000000FFF0#96 = 0#96) ∧
    (wStop &&& 0xF#96 = 0x3#96 ∧ (wStop ^^^ 0xFFFFFFFFFFFFFFFFFFFFFFF3#96) &&& ~~~ 0xFFFFFFFFFFFFFFFFFFFFFFF0#96 = 0#96) ∧
    running.latch = none := by decide
theorem test_witness_SerialisedBytesAreLittleEndian : 0 < 12 ∧ 11 < 12 ∧ ([1, 2, 3] : List Byte).length ≠ 12 := by decide
theorem test_witness_StepRunsTheDecodedCommand :
    ({ running with inputs := [.command wUpdate, .reset] } : State).latch = none ∧
    ({ running with inputs := [.command wUpdate, .reset] } : State).inputs = .command wUpdate :: [.reset] := by decide
theorem test_witness_WithoutInputNothingChanges : running.latch = none ∧ running.inputs = [] := by decide
theorem test_witness_CommandIndexCountsAcceptedCommands :
    after (step { running with inputs := [.reset], cmdIndex := 7 }) = some { State.reset with sinkLog := running.sinkLog } ∧
    (after (step { running with inputs := [.command wStop], cmdIndex := 7 })).map (fun t => t.cmdIndex) = some 8 ∧
    (after (exec .stop { running with cmdIndex := 7 })).map (fun t => t.cmdIndex) = some 7 := by decide

theorem test_witness_ConfigPerformed :
    running.cfgDone = true ∧ State.reset.cfgDone = false ∧ f32val 0x7FC00000 = none ∧ f32val 0xBF800000 = some (-2 ^ 149) ∧
    f32val 0x7F7FFFFF = some ((2 ^ 24 - 1) * 2 ^ 253) := by decide
theorem test_witness_ConfigWhenConfiguredHasNoEffect :
    running.cfgDone = true ∧ after (exec (.config 6 1 0 0) running) = some running ∧ f32val 0 = some 0 ∧
    (after (exec (.config 6 2 0 0) running.applyReset)).isSome = true := by decide
theorem test_witness_NonFiniteConfigHasNoEffect :
    State.reset.cfgDone = false ∧ (0x7FC00000#32).toNat / 2 ^ 23 % 256 = 255 ∧ (0xFF800000#32).toNat / 2 ^ 23 % 256 = 255 ∧
    (0x7F7FFFFF#32).toNat / 2 ^ 23 % 256 ≠ 255 ∧ (0x80000000#32).toNat / 2 ^ 23 % 256 ≠ 255 := by decide
theorem test_witness_UpdatePerformed :
    State.reset.cfgDone = false ∧ running.cfgDone = true ∧ (motor 32767 0 1).mode = .stopped := by decide
theorem test_witness_UpdateAndStopWhenUnconfiguredHaveNoEffect : State.reset.cfgDone = false ∧ State.reset.Inv :=
  ⟨rfl, reset_inv⟩
theorem test_witness_StopPerformed :
    State.reset.cfgDone = false ∧ running.cfgDone = true ∧ (motor 32767 0 1).mode = .stopped := by decide
theorem test_witness_ReservedWordsAreAcceptedWithNoEffect :
    running.latch = none ∧ (0xFFFFFFFFFFFFFFFFFFFFFFF0#96).toNat % 16 = 0 ∧ 4 ≤ (0x4#96).toNat % 16 ∧
    4 ≤ (0xF#96).toNat % 16 := by decide

theorem test_witness_Binary32ValuesAreExact :
    (0x00800000#32).toNat / 2 ^ 23 % 256 = 1 ∧ (0xFF7FFFFF#32).toNat / 2 ^ 23 % 256 = 254 ∧
    (0x807FFFFF#32).toNat / 2 ^ 23 % 256 = 0 ∧ (0x7F800000#32).toNat / 2 ^ 23 % 256 = 255 := by decide
theorem test_witness_NormIsTheRealFormula :
    f32val Config.reference.degenEps = some (5368709 * 2 ^ 120) ∧
    (|((5368709 * 2 ^ 120 : Int) : ℝ) / 2 ^ 149| + |((0 : Int) : ℝ) / 2 ^ 149| ≤ ((5368709 * 2 ^ 120 : Int) : ℝ) / 2 ^ 149) ∧
    (((5368709 * 2 ^ 120 : Int) : ℝ) / 2 ^ 149 < |((5368709 * 2 ^ 120 : Int) : ℝ) / 2 ^ 149| + |((1 : Int) : ℝ) / 2 ^ 149|) := by
  refine ⟨by decide, ?_, ?_⟩ <;> norm_num
theorem test_witness_GainIsTheLargestInteger : (0 : Int) ≤ 5 ∧ (5 : Int) < |3| + |(-3)| ∧ 0 ≤ 32767 ∧ 32767 ≤ 32767 := by decide
theorem test_witness_NormSignAxisSymmetryScale :
    (0 : Int) ≤ 5 ∧ (5 : Int) < 6 ∧ (-6 : Int) < -5 ∧ (0 : Int) < 2 ∧ (0 : Int) < 1 ∧
    (2 : Int) * 3 = 1 * 6 ∧ (2 : Int) * 4 = 1 * 8 ∧ (5 : Int) < |6| + |8| ∧ (5 : Int) < |3| + |4| := by decide
theorem test_witness_GainsHaveUnitLength : (0 : Int) ≤ 0 ∧ (0 : Int) < |1| + |0| := by decide
theorem test_witness_StoredGainsAreNorm :
    State.reset.cfgDone = false ∧ f32val 0x40400000 = some (3 * 2 ^ 149) ∧ f32val 0xC0800000 = some (-4 * 2 ^ 149) := by decide

theorem test_witness_MulhRangeAndLaws :
    -65536 ≤ (-256#16).toInt * (256#16).toInt ∧ (-256#16).toInt * (256#16).toInt ≤ -1 ∧
    -65536 ≤ (-1#16).toInt * (1#16).toInt ∧ (-1#16).toInt * (1#16).toInt ≤ -1 ∧ (0x8000#16).toInt = -32768 := by decide
theorem test_witness_DoublingWrapsAtSixteenBits :
    (-16384 ≤ (0xC000#16).toInt ∧ (0xC000#16).toInt ≤ 16383) ∧ (-16384 ≤ (0x3FFF#16).toInt ∧ (0x3FFF#16).toInt ≤ 16383) := by
  decide
theorem test_witness_ContributionIsQ15Product :
    (-32767 ≤ (0x8001#16).toInt ∧ (0x8001#16).toInt ≤ 32767) ∧ (-32767 ≤ (0x7FFF#16).toInt ∧ (0x7FFF#16).toInt ≤ 32767) ∧
    (-16384 ≤ (0xC000#16).toInt ∧ (0xC000#16).toInt ≤ 16383) ∧ (-16384 ≤ (0x3FFF#16).toInt ∧ (0x3FFF#16).toInt ≤ 16383) := by
  decide
theorem test_witness_YawTermByMode :
    (1#16).toInt > 0 ∧ (0#16).toInt ≤ 0 ∧ (0#16).toInt = 0 ∧ (1#16).toInt = 1 ∧ (-1#16).toInt = -1 ∧ (0x8000#16).toInt ≤ 0 := by
  decide
theorem test_witness_SaturationThenDutyScaling :
    (1099 : Int) < Config.reference.pulseFloor ∧ (2001 : Int) > Config.reference.pulseCeiling ∧
    (Config.reference.pulseFloor ≤ 1100 ∧ (1100 : Int) ≤ Config.reference.pulseCeiling) ∧
    (Config.reference.pulseFloor ≤ 2000 ∧ (2000 : Int) ≤ Config.reference.pulseCeiling) := by decide
theorem test_witness_UpdateDutyStaysInRange :
    running.cfgDone = true ∧
    accumulate running.params.yawMode running.gainX running.gainY running.spin 0 0 0 2001 > running.params.pulseCeiling ∧
    accumulate running.params.yawMode running.gainX running.gainY running.spin 0 0 0 1099 < running.params.pulseFloor := by
  decide
theorem test_witness_ThrottleIsMonotone :
    running.cfgDone = true ∧ (0x8000#16).toInt ≤ (0x7FFF#16).toInt ∧
    (after (exec (.update 100 0 50 0x8000) running)).isSome = true ∧ (after (exec (.update 100 0 50 0x7FFF) running)).isSome = true := by
  decide
theorem test_witness_UpdateHasNoHistory :
    running.cfgDone = true ∧ (motor 32767 0 1).cfgDone = true ∧ running.params = (motor 32767 0 1).params ∧
    running.gainX = (motor 32767 0 1).gainX ∧ running.gainY = (motor 32767 0 1).gainY ∧
    running.spin = (motor 32767 0 1).spin ∧ running.chan = (motor 32767 0 1).chan ∧ running ≠ motor 32767 0 1 := by decide
theorem test_witness_YawSignsAreOpposite :
    (1#16).toInt > 0 ∧ (0#16).toInt ≤ 0 ∧ (-3#16).toInt ≤ 0 ∧ (-3#16).toInt < 0 := by decide
theorem test_witness_ZeroGainsIgnoreRollAndPitch :
    (motor 0 0 1).cfgDone = true ∧ (motor 0 0 1).gainX = 0 ∧ (motor 0 0 1).gainY = 0 := by decide

theorem test_witness_WriteAccessTable :
    (after (exec (.config 3 1 0x3F800000 0) State.reset)).isSome = true ∧ after (exec .stop State.reset) = some State.reset ∧
    (after (exec (.update 100 0 50 1500) running)).isSome = true ∧ after (exec .reserved4 running) = some running := by decide
theorem test_witness_ModeIsEnteredOnlyByItsCommands :
    (motor 32767 0 1).mode = .stopped ∧ running.mode = .running ∧
    (after (exec (.update 100 0 50 1500) (motor 32767 0 1))).map (fun t => t.mode) = some .running ∧
    (after (exec .stop running)).map (fun t => t.mode) = some .stopped := by decide
/-- A configured block that takes a STOP, and one that takes a CONFIG, which is ignored. -/
theorem test_witness_ConfiguredMotorIsFixedUntilReset :
    running.cfgDone = true ∧ (∀ rest, ({ running with inputs := [.command wStop] } : State).inputs ≠ .reset :: rest) ∧
    (after (step { running with inputs := [.command wStop] })).isSome = true :=
  ⟨rfl, fun _ h => (by cases h), by decide⟩
theorem test_witness_DutyIsTheLastSinkWrite :
    (after (step { running with inputs := [.command wStop] })).map (fun t => t.duty) = some 125 ∧
    (after (step { running with inputs := [.reset] })).map (fun t => t.duty) = some 125 ∧
    (after (step running)).map (fun t => t.duty) = some 206 := by decide
theorem test_witness_ParametersNeverChange :
    (after (step { running with inputs := [.reset] })).isSome = true ∧
    (after (clockEdge ⟨false, true, wStop⟩ running)).isSome = true := by decide
theorem test_witness_TransactionalStepsAreNeverBusy :
    configuring.busy = true ∧ (after (step configuring)).map (fun t => t.busy) = some false := by decide

theorem test_witness_StepKeepsTheInvariant :
    running.Inv ∧ (after (step { running with inputs := [.command wStop] })).isSome = true ∧
    configuring.Inv ∧ (after (step configuring)).isSome = true :=
  ⟨running_inv, by decide, configuring_inv, by decide⟩
theorem test_witness_ClockEdgeKeepsTheInvariant :
    running.Inv ∧ (after (clockEdge ⟨false, true, wStop⟩ running)).isSome = true ∧
    configuring.Inv ∧ (after (clockEdge ⟨false, true, wStop⟩ configuring)).isSome = true :=
  ⟨running_inv, by decide, configuring_inv, by decide⟩
theorem test_witness_CommandReadyExactlyWhenIdle : running.Inv ∧ running.cfgDone = true := ⟨running_inv, rfl⟩
theorem test_witness_AcceptanceNeedsValidAndReady :
    running.cmdReady false = true ∧ (after (clockEdge ⟨false, true, wStop⟩ running)).map (fun t => t.cmdIndex) = some 1 ∧
    configuring.cmdReady false = false ∧
    (after (clockEdge ⟨false, true, wStop⟩ configuring)).map (fun t => t.cmdIndex) = some 0 ∧
    (after (clockEdge ⟨false, false, wStop⟩ running)).map (fun t => t.cmdIndex) = some 0 := by decide
theorem test_witness_CycleLevelConfigRefinesTheStep :
    State.reset.latch = none ∧ State.reset.cfgDone = false ∧ decodeWord wConfig = .config 3 1 0x3F800000 0 ∧
    f32val 0x3F800000 ≠ none ∧ f32val 0 ≠ none ∧
    ([] : List Pins).length + 1 = State.reset.params.configLatency ∧
    [(⟨false, true, wUpdate⟩ : Pins), ⟨false, false, 0⟩].length + 1 = (State.resetWith slowParams).params.configLatency ∧
    (∀ p ∈ [(⟨false, true, wUpdate⟩ : Pins), ⟨false, false, 0⟩], p.rst = false) := by decide
theorem test_witness_CycleLevelConfigIsBusyUntilItsLastEdge :
    (State.resetWith slowParams).latch = none ∧ (State.resetWith slowParams).cfgDone = false ∧
    decodeWord wConfig = .config 3 1 0x3F800000 0 ∧ f32val 0x3F800000 ≠ none ∧ f32val 0 ≠ none ∧
    ([] : List Pins).length + 1 < (State.resetWith slowParams).params.configLatency ∧
    [(⟨false, true, wUpdate⟩ : Pins)].length + 1 < (State.resetWith slowParams).params.configLatency ∧
    (∀ p ∈ [(⟨false, true, wUpdate⟩ : Pins)], p.rst = false) := by decide
theorem test_witness_CycleLevelSingleEdgeCommands :
    (running.latch = none ∧ running.cfgDone = true ∧ (after (clockEdge ⟨false, true, wConfig⟩ running)).isSome = true) ∧
    ((State.resetWith slowParams).latch = none ∧
      ∀ chan spin mx my, decodeWord wStop ≠ .config chan spin mx my) ∧
    ((State.resetWith slowParams).latch = none ∧
      decodeWord 0x3F8000007FC00000FFFF0501#96 = .config 5 0xFFFF 0x7FC00000 0x3F800000 ∧ f32val 0x7FC00000 = none) ∧
    (decodeWord 0xFF8000003F800000FFFF0501#96 = .config 5 0xFFFF 0x3F800000 0xFF800000 ∧ f32val 0xFF800000 = none) :=
  ⟨⟨rfl, rfl, by decide⟩, ⟨rfl, fun _ _ _ _ h => by rw [show decodeWord wStop = .stop by decide] at h; cases h⟩,
    ⟨rfl, by decide⟩, by decide⟩
/-- R108 and R109 at the accepting edge: a CONFIG with x NaN does not set BUSY where CONFIG_LATENCY = 3. -/
theorem test_cycle_config_nonfinite :
    (edges [⟨false, true, 0x3F8000007FC00000FFFF0501#96⟩]).map (fun t => (t.busy, t.cfgDone, t.sinkWe, t.cmdIndex)) =
      some (false, false, false, 1) := by decide
theorem test_witness_ResetDiscardsAConfigInProgress :
    configuring.latch = some { ops := { chan := 3, spin := 1, mx := 0x3F800000, my := 0 }, edgesLeft := 2 } ∧
    (after (clockEdge ⟨true, true, wStop⟩ configuring)).isSome = true := by decide
theorem test_witness_OnlyValidParameterSetsAreBuilt :
    (Params.build? { Config.reference.toParamValues with pulseStop := 0, pulseFloor := 0, pulseCeiling := 2047 }).isSome = true ∧
    (Params.build? { Config.reference.toParamValues with degenEps := 0x7F7FFFFF }).isSome = true ∧
    (Params.build? { Config.reference.toParamValues with degenEps := 0x80000000 }).isSome = true ∧
    (Params.build? { Config.reference.toParamValues with degenEps := 0x80000001 }).isSome = false := by decide
theorem test_witness_AssemblerNeverWrapsAnOperand :
    (-32768 ≤ (-32768 : Int) ∧ (32767 : Int) ≤ 32767 ∧ 0xFFFF < 65536 ∧ (0 : Int) ≤ 0 ∧ (255 : Int) ≤ 255 ∧ 0xFF < 256) ∧
    (AsmReal.raw 0x7FC00000).pattern? = some 0x7FC00000 ∧ (AsmReal.dec true 1 0).pattern? = some 0xBF800000 ∧
    (AsmReal.dec false 4 38).pattern? = none ∧ 2 ^ 96 - 1 < 2 ^ 96 ∧ 2 ^ 96 ≤ 2 ^ 96 := by decide +kernel
/-- R82: one past each bound of a CONFIG's channel and spin, in decimal and in raw bits, with every other operand in
range. -/
theorem test_assemble_config_bounds :
    assemble (.config (.dec 255) (.dec (-32769)) (.raw 0) (.raw 0)) = .error .intOutOfRange ∧
    assemble (.config (.dec 255) (.dec 32768) (.raw 0) (.raw 0)) = .error .intOutOfRange ∧
    assemble (.config (.hex 0xFF) (.hex 0x10000) (.raw 0) (.raw 0)) = .error .intOutOfRange ∧
    assemble (.config (.dec (-1)) (.dec 1) (.raw 0) (.raw 0)) = .error .chanOutOfRange ∧
    assemble (.config (.dec 256) (.dec 1) (.raw 0) (.raw 0)) = .error .chanOutOfRange ∧
    assemble (.config (.hex 0x100) (.dec 1) (.raw 0) (.raw 0)) = .error .chanOutOfRange ∧
    assemble (.config (.hex 0xFF) (.dec (-32768)) (.raw 0) (.raw 0)) = .ok 0x00000000000000008000FF01#96 := by decide
/-- R82: one past each bound of an UPDATE's operand, in decimal and in raw bits, and of `.word96`. -/
theorem test_assemble_other_bounds :
    assemble (.update (.dec (-32769)) (.dec 0) (.dec 0) (.dec 0)) = .error .intOutOfRange ∧
    assemble (.update (.dec 0) (.dec 0) (.dec 0) (.dec 32768)) = .error .intOutOfRange ∧
    assemble (.update (.dec 0) (.hex 0x10000) (.dec 0) (.dec 0)) = .error .intOutOfRange ∧
    assemble (.update (.dec (-32768)) (.hex 0xFFFF) (.dec 32767) (.dec 0)) = .ok 0x000000007FFFFFFF80000002#96 ∧
    assemble (.word96 (2 ^ 96)) = .error .wordOutOfRange ∧
    assemble (.word96 (2 ^ 96 - 1)) = .ok 0xFFFFFFFFFFFFFFFFFFFFFFFF#96 := by decide
/-- A literal between two patterns, and the first magnitude that rounds beyond the largest finite value. -/
theorem test_witness_LiteralsRoundToNearestEven :
    0 < 1000000 ∧ f32Nearest true 1 1000000 = some 0xB58637BD ∧
    (2 ^ 128 - 2 ^ 103) * 1 ≤ 2 ^ 128 - 2 ^ 103 ∧ f32Nearest false (2 ^ 128 - 2 ^ 103) 1 = none ∧
    f32Nearest false (2 ^ 128 - 2 ^ 103 - 1) 1 = some 0x7F7FFFFF := by decide +kernel

end Sys2Proof.Tests
end

