-- ==== Sys2Proof/Proofs/Scope.lean ====
section
/-! PROOFS. The statements of 00_scope.md: the legal parameter sets (R6, R101), the derived duty
constants (R7), and the step as the meaning of the decoded command (R14, R53). -/

namespace Sys2Proof.Machine

/-! ### Which parameter sets are legal -/

/-- The exponent field as a quotient of the pattern's number (R79). -/
theorem f32Exponent_eq (b : F32) : f32Exponent b = b.toNat / 2 ^ 23 % 256 := by
  simp [f32Exponent, BitVec.extractLsb'_toNat, Nat.shiftRight_eq_div_pow]

/-- The fraction field as a remainder of the pattern's number (R79). -/
theorem f32Fraction_eq (b : F32) : f32Fraction b = b.toNat % 2 ^ 23 := by
  simp [f32Fraction, BitVec.extractLsb'_toNat]

theorem f32Units_eq_zero_iff_fields (b : F32) : f32Units b = 0 ↔ f32Exponent b = 0 ∧ f32Fraction b = 0 := by
  unfold f32Units
  split <;> simp [*]

/-- A pattern has magnitude zero exactly when no bit but its sign is set. -/
theorem f32Units_eq_zero_iff (b : F32) : f32Units b = 0 ↔ b.toNat % 2 ^ 31 = 0 := by
  rw [f32Units_eq_zero_iff_fields, f32Exponent_eq, f32Fraction_eq]
  omega

/-- The sign bit is clear exactly for the patterns below 2^31. -/
theorem f32_msb_eq_false_iff (b : F32) : b.msb = false ↔ b.toNat < 2 ^ 31 := by
  simp [BitVec.msb_eq_decide]

theorem epsLegal_iff_val (b : F32) : epsLegal b = true ↔ ∃ v, f32val b = some v ∧ 0 ≤ v := by
  unfold epsLegal
  cases f32val b <;> simp

/-- A finite pattern has a non-negative value exactly when its sign is clear or its magnitude is zero (R79). -/
theorem f32val_nonneg_iff (b : F32) :
    (∃ v, f32val b = some v ∧ 0 ≤ v) ↔ f32Exponent b ≠ 255 ∧ (b.msb = false ∨ f32Units b = 0) := by
  unfold f32val
  by_cases he : f32Exponent b = 255
  · simp [he]
  · cases hs : b.msb with
    | false => simp [he]
    | true => simp [he]

/-- R101 read on the bits of DEGEN_EPS: the pattern of -0 passes (log 7). -/
theorem epsLegal_iff (b : F32) :
    epsLegal b = true ↔ b.toNat / 2 ^ 23 % 256 ≠ 255 ∧ (b.toNat < 2 ^ 31 ∨ b.toNat % 2 ^ 31 = 0) := by
  rw [epsLegal_iff_val, f32val_nonneg_iff, f32Exponent_eq, f32_msb_eq_false_iff, f32Units_eq_zero_iff]

theorem Params.build?_isSome_iff (v : ParamValues) : (Params.build? v).isSome = true ↔ v.Valid := by
  unfold Params.build?
  by_cases h : v.Valid
  · rw [dif_pos h]; exact iff_of_true rfl h
  · rw [dif_neg h]; exact iff_of_false Bool.false_ne_true h

/-- Settles O58: building checks exactly `ParamValues.Valid`, whose DEGEN_EPS clause is read on the pattern's bits. -/
theorem onlyValidParameterSetsAreBuilt : Obligations.OnlyValidParameterSetsAreBuilt := by
  intro v
  rw [Params.build?_isSome_iff, ParamValues.Valid, epsLegal_iff]

/-! ### The derived duty constants -/

/-- Settles O57: the pulses of a `Params` are in [0, 2047] and in order, where the duty of a pulse is its eighth
and grows with it. -/
theorem derivedDutiesFitAByte : Obligations.DerivedDutiesFitAByte := by
  intro p
  obtain ⟨hstop, hfloor, hceiling, hmax⟩ := Params.pulse_bounds p
  have hfloor0 : 0 ≤ p.pulseFloor := by omega
  have hfloorMax : p.pulseFloor ≤ 2047 := by omega
  exact ⟨dutyOf_toNat hstop (by omega), dutyOf_toNat hfloor0 hfloorMax, dutyOf_toNat (by omega) hmax,
    dutyOf_le hstop hfloor hfloorMax, dutyOf_le hfloor0 hceiling hmax⟩

/-! ### The step -/

/-- A 96-bit word is presented unchanged, first among the inputs (log 9). -/
theorem State.withFetchWord_inputs (s : State) (w : CmdWord) :
    (s.withFetchWord 96 w.toNat).inputs = .command w :: s.inputs := by
  rw [State.withFetchWord, Nat.mod_eq_of_lt w.isLt, BitVec.ofNat_toNat, BitVec.setWidth_eq]

@[simp] theorem State.withFetchWord_latch (s : State) (nbits w : Nat) : (s.withFetchWord nbits w).latch = none := rfl

/-- Taking the presented word away and accepting it leaves only the emptied latch of withFetchWord (log 9). -/
theorem State.accept_withFetchWord (s : State) (nbits w : Nat) :
    ((s.withFetchWord nbits w).setInputs s.inputs).accept =
      { s with latch := none, sinkPort := none, cmdIndex := s.cmdIndex + 1 } := rfl

/-- Settles O9: both clauses are `step_command`, the second at the word withFetchWord puts first. -/
theorem stepRunsTheDecodedCommand : Obligations.StepRunsTheDecodedCommand := by
  refine ⟨fun s w rest hlatch hinputs => step_command hlatch hinputs, fun s w => ?_⟩
  rw [step_command (s.withFetchWord_latch 96 w.toNat) (s.withFetchWord_inputs w), State.accept_withFetchWord]

end Sys2Proof.Machine
end

section
/-! PROOFS. The statements of 10_state.md: what a command, a step and a clock edge leave unchanged (R21, R26 to R31,
R37), that each keeps the invariant of R39 and the safety of the sink's stream (R4), the reset values (R38), and the
ports (R34, R36). -/

namespace Sys2Proof.Machine

/-! ### What a command leaves unchanged (R37) -/

theorem execUpdate_ignored {cx cy cyaw thr : Half} {s : State} (h : s.cfgDone = false) :
    execUpdate cx cy cyaw thr s = .next s := by
  simp [execUpdate, h]

theorem execStop_ignored {s : State} (h : s.cfgDone = false) : execStop s = .next s := by
  simp [execStop, h]

theorem configResult?_of_configured {s : State} (h : s.cfgDone = true) (mx my : F32) :
    s.configResult? mx my = none :=
  configResult?_eq_none (.inl h)

/-- A CONFIG that will be performed finds an unconfigured block (R107). -/
theorem unconfigured_of_configResult? {s : State} {mx my : F32} (h : (s.configResult? mx my).isSome = true) :
    s.cfgDone = false := by
  obtain ⟨g, hg⟩ := Option.isSome_iff_exists.mp h
  exact (configResult?_eq_some hg).1

/-- No command writes the command index, the inputs or the parameters. -/
theorem exec_frame {i : Instr} {s t : State} (h : exec i s = .next t) :
    t.cmdIndex = s.cmdIndex ∧ t.inputs = s.inputs ∧ t.params = s.params := by
  obtain rfl | ⟨_, _, _, _, _, _, _, rfl⟩ | ⟨_, _, _, _, _, _, rfl⟩ | ⟨_, _, rfl⟩ := exec_cases h <;>
    exact ⟨rfl, rfl, rfl⟩

/-- A command other than CONFIG has no effect, or drives the channel of a configured block. -/
theorem exec_cases_of_not_config {i : Instr} {s t : State} (h : exec i s = .next t)
    (hi : ∀ chan spin mx my, i ≠ .config chan spin mx my) :
    t = s ∨ (s.cfgDone = true ∧ ∃ mode duty, t = s.drive mode s.chan duty) := by
  obtain rfl | ⟨_, _, _, _, _, hconfig, _, _⟩ | ⟨_, _, _, _, _, hc, rfl⟩ | ⟨_, hc, rfl⟩ := exec_cases h
  · exact .inl rfl
  · exact absurd hconfig (hi _ _ _ _)
  · exact .inr ⟨hc, _, _, rfl⟩
  · exact .inr ⟨hc, _, _, rfl⟩

/-- Only CONFIG may write the gains, SPIN, CHAN, CFG_DONE and the latch. -/
theorem exec_motor_of_not_config {i : Instr} {s t : State} (h : exec i s = .next t)
    (hi : ∀ chan spin mx my, i ≠ .config chan spin mx my) :
    t.gainX = s.gainX ∧ t.gainY = s.gainY ∧ t.spin = s.spin ∧ t.chan = s.chan ∧ t.cfgDone = s.cfgDone ∧
      t.latch = s.latch := by
  obtain rfl | ⟨_, _, _, rfl⟩ := exec_cases_of_not_config h hi <;> exact ⟨rfl, rfl, rfl, rfl, rfl, rfl⟩

theorem exec_unconfigured_of_not_config {i : Instr} {s t : State} (h : exec i s = .next t)
    (hi : ∀ chan spin mx my, i ≠ .config chan spin mx my) (hc : s.cfgDone = false) : t = s := by
  obtain ht | ⟨hc', _⟩ := exec_cases_of_not_config h hi
  · exact ht
  · exact absurd (hc.symm.trans hc') Bool.false_ne_true

theorem exec_config_of_configured {chan : Byte} {spin : Half} {mx my : F32} {s t : State}
    (h : exec (.config chan spin mx my) s = .next t) (hc : s.cfgDone = true) : t = s := by
  cases (execConfig_ignored (configResult?_of_configured hc mx my)).symm.trans h
  rfl

theorem exec_reserved {i : Instr} {s t : State} (h : exec i s = .next t)
    (hconfig : ∀ chan spin mx my, i ≠ .config chan spin mx my)
    (hupdate : ∀ cx cy cyaw thr, i ≠ .update cx cy cyaw thr) (hstop : i ≠ .stop) : t = s := by
  obtain rfl | ⟨_, _, _, _, _, hi, _⟩ | ⟨_, _, _, _, hi, _⟩ | ⟨hi, _⟩ := exec_cases h
  · rfl
  · exact absurd hi (hconfig _ _ _ _)
  · exact absurd hi (hupdate _ _ _ _)
  · exact absurd hi hstop

/-- R27, R206: no command changes the motor of a configured block. -/
theorem exec_keeps_configured_motor {i : Instr} {s t : State} (h : exec i s = .next t) (hc : s.cfgDone = true) :
    t.cfgDone = true ∧ t.gainX = s.gainX ∧ t.gainY = s.gainY ∧ t.spin = s.spin ∧ t.chan = s.chan := by
  by_cases hi : ∃ chan spin mx my, i = .config chan spin mx my
  · obtain ⟨chan, spin, mx, my, rfl⟩ := hi
    obtain rfl := exec_config_of_configured h hc
    exact ⟨hc, rfl, rfl, rfl, rfl⟩
  · obtain ⟨hgx, hgy, hspin, hchan, hcfg, _⟩ := exec_motor_of_not_config h (by simpa using hi)
    exact ⟨hcfg.trans hc, hgx, hgy, hspin, hchan⟩

/-- A command never starts a CONFIG of several edges: only the cycle level fills the latch. -/
theorem exec_latch_eq_none {i : Instr} {s t : State} (h : exec i s = .next t) (hl : s.latch = none) :
    t.latch = none := by
  obtain rfl | ⟨_, _, _, _, _, _, _, rfl⟩ | ⟨_, _, _, _, _, _, rfl⟩ | ⟨_, _, rfl⟩ := exec_cases h
  · exact hl
  · rfl
  · exact hl
  · exact hl

/-! ### The sink writes of a command (R26, R54) -/

/-- From `s` to `t` exactly one sink write is made: the port drives it, and it sends the new DUTY to the new CHAN. -/
def MakesSinkWrite (s t : State) : Prop :=
  ∃ w, t.sinkPort = some w ∧ t.sinkLog = s.sinkLog ++ [w] ∧ w.chan = t.chan ∧ w.duty = t.duty

theorem drive_makesSinkWrite (s : State) (mode : Mode) (duty : Byte) : MakesSinkWrite s (s.drive mode s.chan duty) :=
  ⟨⟨s.chan, duty⟩, rfl, rfl, rfl, rfl⟩

theorem performConfig_makesSinkWrite (s : State) (gx gy : Int) (spin : Half) (chan : Byte) :
    MakesSinkWrite s (s.performConfig gx gy spin chan) :=
  ⟨⟨chan, stopDuty s.params⟩, rfl, rfl, rfl, rfl⟩

theorem exec_eq_or_makesSinkWrite {i : Instr} {s t : State} (h : exec i s = .next t) :
    t = s ∨ MakesSinkWrite s t := by
  obtain rfl | ⟨_, _, _, _, _, _, _, rfl⟩ | ⟨_, _, _, _, _, _, rfl⟩ | ⟨_, _, rfl⟩ := exec_cases h
  · exact .inl rfl
  · exact .inr (performConfig_makesSinkWrite _ _ _ _ _)
  · exact .inr (drive_makesSinkWrite _ _ _)
  · exact .inr (drive_makesSinkWrite _ _ _)

/-- Settles O39: each row of the table is a lemma above, over the cases of a command. -/
theorem writeAccessTable : Obligations.WriteAccessTable := by
  intro i s t h
  obtain ⟨hindex, hinputs, hparams⟩ := exec_frame h
  refine ⟨hindex, hinputs, hparams, exec_motor_of_not_config h, exec_unconfigured_of_not_config h, ?_,
    exec_reserved h, fun hc => (exec_keeps_configured_motor h hc).1, exec_eq_or_makesSinkWrite h⟩
  rintro chan spin mx my rfl hc
  exact exec_config_of_configured h hc

/-- Settles O40: of the three performed commands only UPDATE drives Running; the other two drive Stopped. -/
theorem modeIsEnteredOnlyByItsCommands : Obligations.ModeIsEnteredOnlyByItsCommands := by
  intro i s t h
  obtain rfl | ⟨chan, spin, mx, my, g, rfl, hg, rfl⟩ | ⟨cx, cy, cyaw, thr, rfl, hc, rfl⟩ | ⟨rfl, hc, rfl⟩ :=
    exec_cases h
  · exact ⟨fun hs hr => by simp [hs] at hr, fun hr hs => by simp [hr] at hs⟩
  · exact ⟨by simp, fun _ _ => .inr ⟨(configResult?_eq_some hg).1, chan, spin, mx, my, rfl⟩⟩
  · exact ⟨fun _ _ => ⟨hc, cx, cy, cyaw, thr, rfl⟩, by simp⟩
  · exact ⟨by simp, fun _ _ => .inl ⟨hc, rfl⟩⟩

/-! ### The command index (R21, R203) -/

/-- No meaning reads the command index: a command does the same from a state with another one. -/
theorem exec_setCmdIndex {i : Instr} {s t : State} (n : Nat) (h : exec i s = .next t) :
    exec i { s with cmdIndex := n } = .next { t with cmdIndex := n } := by
  cases i with
  | config chan spin mx my =>
    obtain ⟨g, hg, rfl⟩ | ⟨hn, rfl⟩ := execConfig_cases h
    · exact execConfig_performed (s := { s with cmdIndex := n }) hg
    · exact execConfig_ignored (s := { t with cmdIndex := n }) hn
  | update cx cy cyaw thr =>
    obtain ⟨hc, rfl⟩ | ⟨hc, rfl⟩ := execUpdate_cases h
    · exact execUpdate_performed (s := { s with cmdIndex := n }) hc
    · exact execUpdate_ignored (s := { t with cmdIndex := n }) hc
  | stop =>
    obtain ⟨hc, rfl⟩ | ⟨hc, rfl⟩ := execStop_cases h
    · exact execStop_performed (s := { s with cmdIndex := n }) hc
    · exact execStop_ignored (s := { t with cmdIndex := n }) hc
  | _ => cases h; rfl

/-- Settles O12: acceptance adds 1 and the command itself neither writes nor reads the index. -/
theorem commandIndexCountsAcceptedCommands : Obligations.CommandIndexCountsAcceptedCommands := by
  refine ⟨fun _ => rfl, fun s t rest hi h => ?_, fun s t w rest hl hi h => ?_, fun i s t n => exec_setCmdIndex n⟩
  · cases (step_reset hi).symm.trans h
    rfl
  · rw [step_command hl hi] at h
    exact (exec_frame h).1

/-! ### The gain registers (R22, R23) -/

/-- Settles O26: NORM's integers lie in [-32767, 32767], so a 16-bit register holds them exactly. -/
theorem storedGainsAreNorm : Obligations.StoredGainsAreNorm := by
  intro s chan spin mx my x y hc hx hy
  obtain ⟨hx1, hx2, hy1, hy2⟩ := normVec_range (epsUnits s.params) x y
  have hgx := toInt_ofInt16 (v := (normVec (epsUnits s.params) x y).1) (by omega) (by omega)
  have hgy := toInt_ofInt16 (v := (normVec (epsUnits s.params) x y).2) (by omega) (by omega)
  refine ⟨_, execConfig_performed (configResult?_of_finite hc hx hy), hgx, hgy, ?_, ?_⟩
  · rw [State.performConfig_gainX, hgx]; omega
  · rw [State.performConfig_gainY, hgy]; omega

/-! ### A CONFIG in progress -/

/-- On a configured block the completion only empties the latch. -/
theorem finishConfig_of_configured {s : State} (hc : s.cfgDone = true) (c : ConfigInFlight) :
    s.finishConfig c = { s with latch := none } := by
  simp [State.finishConfig, configResult?_of_configured hc]

@[simp] theorem finishConfig_latch (s : State) (c : ConfigInFlight) : (s.finishConfig c).latch = none := by
  obtain ⟨_, _, h⟩ | ⟨_, h⟩ := finishConfig_cases s c <;> simp [h]

@[simp] theorem finishConfig_params (s : State) (c : ConfigInFlight) : (s.finishConfig c).params = s.params := by
  obtain ⟨_, _, h⟩ | ⟨_, h⟩ := finishConfig_cases s c <;> simp [h]

/-- One edge of a CONFIG in progress completes it or counts one edge down. -/
theorem advanceConfig_cases (s : State) (c : ConfigInFlight) :
    (c.edgesLeft ≤ 1 ∧ s.advanceConfig c = s.finishConfig c) ∨
    (1 < c.edgesLeft ∧ s.advanceConfig c = { s with latch := some { c with edgesLeft := c.edgesLeft - 1 } }) := by
  unfold State.advanceConfig
  split
  · exact .inl ⟨‹_›, rfl⟩
  · exact .inr ⟨by omega, rfl⟩

@[simp] theorem advanceConfig_params (s : State) (c : ConfigInFlight) : (s.advanceConfig c).params = s.params := by
  obtain ⟨_, h⟩ | ⟨_, h⟩ := advanceConfig_cases s c
  · rw [h, finishConfig_params]
  · rw [h]

theorem executeAtEdge_params {i : Instr} {s t : State} (h : s.executeAtEdge i = .next t) : t.params = s.params := by
  obtain ⟨_, _, _, _, rfl⟩ | h := executeAtEdge_cases h
  · rfl
  · exact (exec_frame h).2.2

/-! ### What a step leaves unchanged -/

/-- Settles O41: a configured block accepts no new motor, and a latched CONFIG would only be discarded. -/
theorem configuredMotorIsFixedUntilReset : Obligations.ConfiguredMotorIsFixedUntilReset := by
  intro s t hc hi h
  obtain ⟨rest, hreset, _⟩ | ⟨c, _, _, rfl⟩ | ⟨w, rest, _, _, hexec⟩ | ⟨_, _, rfl⟩ := step_cases h
  · exact absurd hreset (hi rest)
  · rw [finishConfig_of_configured (s := s.endCycle) hc]
    exact ⟨hc, rfl, rfl, rfl, rfl⟩
  · exact exec_keeps_configured_motor (s := (s.setInputs rest).accept) hexec hc
  · exact ⟨hc, rfl, rfl, rfl, rfl⟩

theorem stopDuty_eq (p : Params) : stopDuty p = BitVec.ofInt 8 (p.pulseStop / 8) := rfl

/-- A command and the completion of a CONFIG make one sink write or none, a reset edge and an idle cycle none. -/
theorem step_sinkWrite_cases {s t : State} (h : step s = .next t) :
    MakesSinkWrite s t ∨
    (t.sinkLog = s.sinkLog ∧ t.sinkPort = none ∧
      (t.duty = s.duty ∨ (∃ rest, s.inputs = .reset :: rest) ∧ t.duty = stopDuty s.params)) := by
  obtain ⟨rest, hi, rfl⟩ | ⟨c, _, _, rfl⟩ | ⟨w, rest, _, _, hexec⟩ | ⟨_, _, rfl⟩ := step_cases h
  · exact .inr ⟨rfl, rfl, .inr ⟨⟨rest, hi⟩, rfl⟩⟩
  · obtain ⟨g, _, hf⟩ | ⟨_, hf⟩ := finishConfig_cases s.endCycle c <;> rw [hf]
    · exact .inl (performConfig_makesSinkWrite s.endCycle _ _ _ _)
    · exact .inr ⟨rfl, rfl, .inl rfl⟩
  · obtain rfl | hw := exec_eq_or_makesSinkWrite hexec
    · exact .inr ⟨rfl, rfl, .inl rfl⟩
    · exact .inl hw
  · exact .inr ⟨rfl, rfl, .inl rfl⟩

/-- Settles O42: `step_sinkWrite_cases`, with STOP_DUTY as the eighth of its pulse. -/
theorem dutyIsTheLastSinkWrite : Obligations.DutyIsTheLastSinkWrite := by
  intro s t h
  obtain ⟨w, hport, hlog, hchan, hduty⟩ | hnone := step_sinkWrite_cases h
  · exact .inl ⟨w, hlog, hport, hduty, hchan⟩
  · rw [stopDuty_eq] at hnone
    exact .inr hnone

theorem step_params {s t : State} (h : step s = .next t) : t.params = s.params := by
  obtain ⟨rest, _, rfl⟩ | ⟨c, _, _, rfl⟩ | ⟨w, rest, _, _, hexec⟩ | ⟨_, _, rfl⟩ := step_cases h
  · rfl
  · exact finishConfig_params s.endCycle c
  · exact (exec_frame hexec).2.2
  · rfl

theorem clockEdge_params {p : Pins} {s t : State} (h : clockEdge p s = .next t) : t.params = s.params := by
  obtain ⟨_, rfl⟩ | ⟨_, c, _, rfl⟩ | ⟨_, _, _, hexec⟩ | ⟨_, _, _, rfl⟩ := clockEdge_cases h
  · rfl
  · exact advanceConfig_params s.endCycle c
  · exact executeAtEdge_params (s := s.accept) hexec
  · rfl

/-- Settles O43, over the cases of a step and of a clock edge. -/
theorem parametersNeverChange : Obligations.ParametersNeverChange :=
  ⟨fun _ _ => step_params, fun _ _ _ => clockEdge_params⟩

/-- Settles O44: a reset and a completion empty the latch, and a command accepted with an empty latch leaves it so. -/
theorem transactionalStepsAreNeverBusy : Obligations.TransactionalStepsAreNeverBusy := by
  intro s t h
  rw [State.busy_eq_false_iff]
  obtain ⟨rest, _, rfl⟩ | ⟨c, _, _, rfl⟩ | ⟨w, rest, hl, _, hexec⟩ | ⟨hl, _, rfl⟩ := step_cases h
  · rfl
  · exact finishConfig_latch _ c
  · exact exec_latch_eq_none hexec hl
  · exact hl

/-! ### Reset (R38) -/

/-- Settles O45: the fields of `State.resetWith`, with STOP_DUTY as the eighth of its pulse. -/
theorem resetValues : Obligations.ResetValues :=
  fun p => ⟨rfl, rfl, rfl, rfl, stopDuty_eq p, rfl, rfl, rfl, rfl, rfl, rfl, rfl⟩

theorem latchSound_of_latch_eq_none {s : State} (hl : s.latch = none) : s.latchSound := by
  intro c hc
  simp [hl] at hc

/-- Settles O47: the registers hold their reset values, the latch and the run's list of writes are empty. -/
theorem resetSatisfiesTheInvariant : Obligations.ResetSatisfiesTheInvariant := fun p =>
  { unconfigured := fun _ => ⟨rfl, rfl, rfl, rfl, rfl, rfl⟩
    gains := by simp [State.gainsInRange, State.resetWith]
    duty := rfl
    latch := latchSound_of_latch_eq_none rfl
    sink := fun _ h => absurd h List.not_mem_nil }

/-! ### The invariant over the operations (R39, R4)

The invariant does not speak of the sink port, the command index or the inputs. -/

theorem State.Inv.setInputs {s : State} (h : s.Inv) (rest : List HostInput) : (s.setInputs rest).Inv :=
  ⟨h.unconfigured, h.gains, h.duty, h.latch, h.sink⟩

theorem State.Inv.endCycle {s : State} (h : s.Inv) : s.endCycle.Inv :=
  ⟨h.unconfigured, h.gains, h.duty, h.latch, h.sink⟩

theorem State.Inv.accept {s : State} (h : s.Inv) : s.accept.Inv :=
  ⟨h.unconfigured, h.gains, h.duty, h.latch, h.sink⟩

/-- A reset edge keeps the writes already made; everything else is as `resetSatisfiesTheInvariant` says. -/
theorem State.Inv.applyReset {s : State} (h : s.Inv) : s.applyReset.Inv :=
  have hr := resetSatisfiesTheInvariant s.params
  ⟨hr.unconfigured, hr.gains, hr.duty, hr.latch, h.sink⟩

theorem State.Inv.clearLatch {s : State} (h : s.Inv) : { s with latch := none : State }.Inv :=
  ⟨h.unconfigured, h.gains, h.duty, latchSound_of_latch_eq_none rfl, h.sink⟩

/-- Filling the latch with a CONFIG that will be performed and has edges to go (R29, R109). -/
theorem State.Inv.setLatch {s : State} {c : ConfigInFlight} (h : s.Inv)
    (hc : (s.configResult? c.ops.mx c.ops.my).isSome = true) (hpos : 1 ≤ c.edgesLeft)
    (hmax : c.edgesLeft + 1 ≤ s.params.configLatency) : { s with latch := some c : State }.Inv :=
  ⟨h.unconfigured, h.gains, h.duty, fun _ hd => Option.some.inj hd ▸ ⟨hc, hpos, hmax⟩, h.sink⟩

/-- A configured block has no CONFIG in progress: the latch holds only one that will be performed. -/
theorem State.Inv.latch_eq_none {s : State} (h : s.Inv) (hc : s.cfgDone = true) : s.latch = none := by
  refine Option.eq_none_iff_forall_ne_some.mpr fun c hl => ?_
  have hfree := unconfigured_of_configResult? (h.latch c hl).1
  exact absurd (hfree.symm.trans hc) Bool.false_ne_true

/-- A duty that agrees with MODE is one the MMAC may send. -/
theorem legalDuty_of_dutyMatchesMode {s : State} (h : s.dutyMatchesMode) : legalDuty s.params s.duty := by
  unfold State.dutyMatchesMode at h
  split at h
  · exact .inl h
  · exact .inr h

theorem sinkSafe_of_makesSinkWrite {s t : State} (hs : s.sinkSafe) (hp : t.params = s.params)
    (ht : t.dutyMatchesMode) (hw : MakesSinkWrite s t) : t.sinkSafe := by
  obtain ⟨w, _, hlog, _, hduty⟩ := hw
  intro v hv
  rw [hlog, List.mem_append, List.mem_singleton] at hv
  obtain hv | rfl := hv
  · rw [hp]; exact hs v hv
  · rw [hduty]; exact legalDuty_of_dutyMatchesMode ht

/-- Driving a configured block's channel with a duty that agrees with the mode. -/
theorem State.Inv.drive {s : State} {mode : Mode} {duty : Byte} (h : s.Inv) (hc : s.cfgDone = true)
    (hd : (s.drive mode s.chan duty).dutyMatchesMode) : (s.drive mode s.chan duty).Inv where
  unconfigured := fun hn => absurd (hn.symm.trans hc) Bool.false_ne_true
  gains := h.gains
  duty := hd
  latch := latchSound_of_latch_eq_none (h.latch_eq_none hc)
  sink := sinkSafe_of_makesSinkWrite h.sink rfl hd (drive_makesSinkWrite s mode duty)

/-- A performed CONFIG stores gains in range and stops the motor (R103, R110, R111). -/
theorem State.Inv.performConfig {s : State} {mx my : F32} {g : Int × Int} (h : s.Inv)
    (hg : s.configResult? mx my = some g) (spin : Half) (chan : Byte) : (s.performConfig g.1 g.2 spin chan).Inv where
  unconfigured := fun hn => Bool.noConfusion hn
  gains := by
    obtain ⟨hx1, hx2, hy1, hy2⟩ := configGains_range (configResult?_eq_some hg).2
    unfold State.gainsInRange
    rw [State.performConfig_gainX, State.performConfig_gainY, toInt_ofInt16 (by omega) (by omega),
      toInt_ofInt16 (by omega) (by omega)]
    exact ⟨hx1, hx2, hy1, hy2⟩
  duty := rfl
  latch := latchSound_of_latch_eq_none rfl
  sink := sinkSafe_of_makesSinkWrite h.sink rfl rfl (performConfig_makesSinkWrite s _ _ _ _)

/-! ### The invariant over commands, steps and clock edges -/

theorem exec_keeps_inv {i : Instr} {s t : State} (h : s.Inv) (he : exec i s = .next t) : t.Inv := by
  obtain rfl | ⟨_, _, _, _, _, _, hg, rfl⟩ | ⟨cx, cy, cyaw, thr, _, hc, rfl⟩ | ⟨_, hc, rfl⟩ := exec_cases he
  · exact h
  · exact h.performConfig hg _ _
  · exact h.drive hc (mixDuty_bounds s.params s.gainX s.gainY s.spin cx cy cyaw thr)
  · exact h.drive hc rfl

theorem finishConfig_keeps_inv {s : State} (h : s.Inv) (c : ConfigInFlight) : (s.finishConfig c).Inv := by
  obtain ⟨g, hg, hf⟩ | ⟨_, hf⟩ := finishConfig_cases s c <;> rw [hf]
  · exact h.performConfig hg _ _
  · exact h.clearLatch

theorem advanceConfig_keeps_inv {s : State} {c : ConfigInFlight} (h : s.Inv) (hl : s.latch = some c) :
    (s.advanceConfig c).Inv := by
  obtain ⟨_, hf⟩ | ⟨hmore, hf⟩ := advanceConfig_cases s c <;> rw [hf]
  · exact finishConfig_keeps_inv h c
  · obtain ⟨hc, _, hmax⟩ := h.latch c hl
    exact h.setLatch hc (show 1 ≤ c.edgesLeft - 1 by omega)
      (show c.edgesLeft - 1 + 1 ≤ s.params.configLatency by omega)

theorem executeAtEdge_keeps_inv {i : Instr} {s t : State} (h : s.Inv) (he : s.executeAtEdge i = .next t) : t.Inv := by
  obtain ⟨ops, _, hc, hlatency, rfl⟩ | he := executeAtEdge_cases he
  · exact h.setLatch hc (show 1 ≤ s.params.configLatency - 1 by omega)
      (show s.params.configLatency - 1 + 1 ≤ s.params.configLatency by omega)
  · exact exec_keeps_inv h he

/-- Settles O48: each case of a step is an operation that keeps the invariant. -/
theorem stepKeepsTheInvariant : Obligations.StepKeepsTheInvariant := by
  intro s t h hs
  obtain ⟨rest, _, rfl⟩ | ⟨c, _, _, rfl⟩ | ⟨w, rest, _, _, hexec⟩ | ⟨_, _, rfl⟩ := step_cases hs
  · exact (h.setInputs rest).applyReset
  · exact finishConfig_keeps_inv h.endCycle c
  · exact exec_keeps_inv (h.setInputs rest).accept hexec
  · exact h.endCycle

/-- Settles O49: each case of a clock edge is an operation that keeps the invariant. -/
theorem clockEdgeKeepsTheInvariant : Obligations.ClockEdgeKeepsTheInvariant := by
  intro p s t h hs
  obtain ⟨_, rfl⟩ | ⟨_, c, hl, rfl⟩ | ⟨_, _, _, hexec⟩ | ⟨_, _, _, rfl⟩ := clockEdge_cases hs
  · exact h.applyReset
  · exact advanceConfig_keeps_inv h.endCycle hl
  · exact executeAtEdge_keeps_inv h.accept hexec
  · exact h.endCycle

/-! ### The ports (R34, R36) -/

theorem State.cmdReady_eq_false_iff (s : State) (rst : Bool) :
    s.cmdReady rst = false ↔ rst = true ∨ s.busy = true := by
  simp only [State.cmdReady, Bool.and_eq_false_iff, Bool.not_eq_false']

/-- Settles O50: the invariant leaves a configured block no CONFIG in progress. -/
theorem commandReadyExactlyWhenIdle : Obligations.CommandReadyExactlyWhenIdle := by
  refine ⟨State.cmdReady_eq_false_iff, fun s h hc => ?_⟩
  rw [State.cmdReady_false_eq, s.busy_eq_false_iff.mpr (h.latch_eq_none hc)]
  rfl

theorem cfgDoneBit_eq_one_iff (s : State) : cfgDoneBit s = 1#1 ↔ s.cfgDone = true := by
  unfold cfgDoneBit
  cases s.cfgDone <;> decide

theorem modeBit_eq_one_iff (s : State) : modeBit s = 1#1 ↔ s.mode = .running := by
  unfold modeBit
  cases s.mode <;> decide

/-- Settles O56: the outputs are the registers, the two status bits read by the lemmas above. -/
theorem observationPortsShowTheRegisters : Obligations.ObservationPortsShowTheRegisters := fun s =>
  ⟨rfl, rfl, rfl, rfl, rfl, cfgDoneBit_eq_one_iff s, modeBit_eq_one_iff s⟩

end Sys2Proof.Machine
end

section
/-! PROOFS. The statements of 20_memory.md: the little-endian serialisation of a command word (R56), and the handshake
that accepts a command at a clock edge (R52, R207). -/

namespace Sys2Proof.Machine

/-! ### The serialised form (R56) -/

@[simp] theorem wordBytes_length (w : CmdWord) : (wordBytes w).length = 12 := by
  simp [wordBytes]

theorem wordBytes_getElem? (w : CmdWord) {k : Nat} (hk : k < 12) : (wordBytes w)[k]? = some (field w (8 * k) 8) := by
  simp [wordBytes, hk]

/-- One more byte holds 256 times as many values. -/
theorem two_pow_bits_succ (n : Nat) : 2 ^ (8 * (n + 1)) = 2 ^ (8 * n) * 256 :=
  pow_add 2 (8 * n) 8

/-- The bytes from byte `lo` on are the digits to base 256 of the word from bit `8 * lo` on: each further byte splits
off one digit. -/
theorem bytesValue_fields (w : CmdWord) (lo n : Nat) :
    bytesValue ((List.range' lo n).map fun k => field w (8 * k) 8) = w.toNat / 2 ^ (8 * lo) % 2 ^ (8 * n) := by
  induction n generalizing lo with
  | zero => simp [bytesValue, Nat.mod_one]
  | succ n ih =>
    rw [List.range'_succ, List.map_cons, bytesValue, ih, field_eq_ofNat, BitVec.toNat_ofNat, two_pow_bits_succ lo,
      two_pow_bits_succ n, Nat.mul_comm (2 ^ (8 * n)), Nat.mod_mul, Nat.div_div_eq_div_mul]

theorem bytesValue_wordBytes (w : CmdWord) : bytesValue (wordBytes w) = w.toNat := by
  rw [wordBytes, List.range_eq_range', bytesValue_fields, Nat.mul_zero, pow_zero, Nat.div_one, Nat.mod_eq_of_lt w.isLt]

theorem decodeBytes_wordBytes (w : CmdWord) : decodeBytes (wordBytes w) = .ok (decodeWord w) := by
  rw [decodeBytes, if_pos (wordBytes_length w), bytesValue_wordBytes, BitVec.ofNat_toNat, BitVec.setWidth_eq]

/-- Settles O8: byte k is a field of the word, and the value of the twelve bytes is the word's number. -/
theorem serialisedBytesAreLittleEndian : Obligations.SerialisedBytesAreLittleEndian := by
  refine ⟨fun w k hk => ?_, fun w => ⟨wordBytes_length w, decodeBytes_wordBytes w⟩, fun bs hbs => if_neg hbs⟩
  rw [wordBytes_getElem? w hk, field_eq_ofNat]

/-! ### The handshake (R52, R207) -/

@[simp] theorem finishConfig_cmdIndex (s : State) (c : ConfigInFlight) : (s.finishConfig c).cmdIndex = s.cmdIndex := by
  obtain ⟨_, _, h⟩ | ⟨_, h⟩ := finishConfig_cases s c <;> simp [h]

@[simp] theorem advanceConfig_cmdIndex (s : State) (c : ConfigInFlight) :
    (s.advanceConfig c).cmdIndex = s.cmdIndex := by
  obtain ⟨_, h⟩ | ⟨_, h⟩ := advanceConfig_cases s c
  · rw [h, finishConfig_cmdIndex]
  · rw [h]

theorem executeAtEdge_cmdIndex {i : Instr} {s t : State} (h : s.executeAtEdge i = .next t) :
    t.cmdIndex = s.cmdIndex := by
  obtain ⟨_, _, _, _, rfl⟩ | h := executeAtEdge_cases h
  · rfl
  · exact (exec_frame h).1

/-- With `rst` = 0 the block is ready exactly when it has no CONFIG in progress (R34). -/
theorem State.cmdReady_false_eq_true_iff (s : State) : s.cmdReady false = true ↔ s.latch = none := by
  rw [State.cmdReady_false_eq, Bool.not_eq_true', State.busy_eq_false_iff]

/-- A ready edge with a valid command counts it. -/
theorem clockEdge_accept_cmdIndex {s t : State} {w : CmdWord} (hr : s.cmdReady false = true)
    (h : clockEdge ⟨false, true, w⟩ s = .next t) : t.cmdIndex = s.cmdIndex + 1 := by
  rw [clockEdge_accept (s.cmdReady_false_eq_true_iff.mp hr)] at h
  exact executeAtEdge_cmdIndex (s := s.accept) h

/-- What the block does at an edge at which it accepts no command: a CONFIG in progress advances, and otherwise only
the sink port's cycle ends (R35, R109). -/
def State.unattendedEdge (s : State) : State :=
  match s.latch with
  | some c => s.endCycle.advanceConfig c
  | none => s.endCycle

theorem State.unattendedEdge_cmdIndex (s : State) : s.unattendedEdge.cmdIndex = s.cmdIndex := by
  unfold State.unattendedEdge
  split
  · exact advanceConfig_cmdIndex s.endCycle _
  · rfl

/-- Without `cmd_valid` or without `cmd_ready` the next state does not depend on the command pins. -/
theorem clockEdge_unattended {s : State} {valid : Bool} {w : CmdWord}
    (h : valid = false ∨ s.cmdReady false = false) : clockEdge ⟨false, valid, w⟩ s = .next s.unattendedEdge := by
  unfold State.unattendedEdge
  cases hl : s.latch with
  | some c => exact clockEdge_busy rfl hl
  | none =>
    have hready := s.cmdReady_false_eq_true_iff.mpr hl
    obtain rfl : valid = false := h.resolve_right (by simp [hready])
    exact clockEdge_idle hl w

/-- Settles O51: an accepting edge adds 1 to the index, and every other edge is `State.unattendedEdge`. -/
theorem acceptanceNeedsValidAndReady : Obligations.AcceptanceNeedsValidAndReady := by
  refine ⟨fun s t w => clockEdge_accept_cmdIndex, fun s t valid w hn h => ?_, fun s valid valid' w w' hn => ?_⟩
  · cases (clockEdge_unattended hn).symm.trans h
    exact s.unattendedEdge_cmdIndex
  · rw [clockEdge_unattended (hn.imp_left And.left), clockEdge_unattended (hn.imp_left And.right)]

end Sys2Proof.Machine
end

section
/-! PROOFS. The statements of 30_encoding.md: a command word and its fields (R71 to R75, R78, R80), its ignored bits
(R77), the reserved opcodes (R76), binary32 values (R79), and the assembler with its real literals (R82, R83). -/

namespace Sys2Proof.Machine

/-! ### A word as its fields -/

theorem append_inj {m n : Nat} {a c : BitVec m} {b d : BitVec n} (h : a ++ b = c ++ d) : a = c ∧ b = d := by
  constructor
  · simpa only [BitVec.extractLsb'_append_eq_left] using congrArg (BitVec.extractLsb' n m) h
  · simpa only [BitVec.extractLsb'_append_eq_right] using congrArg (BitVec.extractLsb' 0 n) h

/-- Two fields that meet at a bit are one field. -/
theorem field_append_field (w : CmdWord) (lo m n : Nat) :
    field w (lo + n) m ++ field w lo n = field w lo (m + n) :=
  BitVec.extractLsb'_append_extractLsb'_eq_extractLsb' rfl

theorem body_append_op (w : CmdWord) : field w 4 92 ++ opField w = w := by
  have hfull : field w 0 96 = w := by simp [field]
  rw [opField, field_append_field w 0 92 4, hfull]

/-- The operand bits as CONFIG divides them (R72). -/
theorem config_fields_append (w : CmdWord) :
    field w 64 32 ++ field w 32 32 ++ field w 16 16 ++ field w 8 8 ++ field w 4 4 = field w 4 92 := by
  rw [field_append_field w 32 32 32, field_append_field w 16 64 16, field_append_field w 8 80 8,
    field_append_field w 4 88 4]

/-- The operand bits as UPDATE divides them (R73). -/
theorem update_fields_append (w : CmdWord) :
    field w 80 16 ++ field w 64 16 ++ field w 48 16 ++ field w 32 16 ++ field w 16 16 ++ field w 4 12 =
      field w 4 92 := by
  rw [field_append_field w 64 16 16, field_append_field w 48 32 16, field_append_field w 32 48 16,
    field_append_field w 16 64 16, field_append_field w 4 80 12]

/-! ### Decode of encode -/

theorem body_encode (i : Instr) : field (encode i) 4 92 = i.body :=
  (append_inj (body_append_op (encode i))).1

theorem opField_encode (i : Instr) : opField (encode i) = i.op :=
  (append_inj (body_append_op (encode i))).2

theorem decodeConfig_encode (chan : Byte) (spin : Half) (mx my : F32) :
    decodeConfig (encode (.config chan spin mx my)) = .config chan spin mx my := by
  have h := (config_fields_append _).trans (body_encode (.config chan spin mx my))
  obtain ⟨h, _⟩ := append_inj h
  obtain ⟨h, hchan⟩ := append_inj h
  obtain ⟨h, hspin⟩ := append_inj h
  obtain ⟨hmy, hmx⟩ := append_inj h
  rw [decodeConfig, hchan, hspin, hmx, hmy]

theorem decodeUpdate_encode (cx cy cyaw thr : Half) :
    decodeUpdate (encode (.update cx cy cyaw thr)) = .update cx cy cyaw thr := by
  have h := (update_fields_append _).trans (body_encode (.update cx cy cyaw thr))
  obtain ⟨h, _⟩ := append_inj h
  obtain ⟨h, hcx⟩ := append_inj h
  obtain ⟨h, hcy⟩ := append_inj h
  obtain ⟨h, hcyaw⟩ := append_inj h
  obtain ⟨_, hthr⟩ := append_inj h
  rw [decodeUpdate, hcx, hcy, hcyaw, hthr]

/-- Settles O5: OP selects the command's own row, whose fields are the slices `Instr.body` put the operands in. -/
theorem decodeInvertsEncode : Obligations.DecodeInvertsEncode := by
  intro i
  rw [decodeWord, opField_encode]
  cases i with
  | config chan spin mx my => exact decodeConfig_encode chan spin mx my
  | update cx cy cyaw thr => exact decodeUpdate_encode cx cy cyaw thr
  | _ => rfl

/-! ### The opcode map (R71, R75) -/

theorem op_decodeRow (w : CmdWord) {n : Nat} (hn : n < 16) : (decodeRow w n).op = BitVec.ofNat 4 n := by
  interval_cases n <;> rfl

/-- Decoding keeps OP. -/
theorem op_decodeWord (w : CmdWord) : (decodeWord w).op = opField w := by
  rw [decodeWord, op_decodeRow w (opField w).isLt, BitVec.ofNat_toNat, BitVec.setWidth_eq]

theorem op_decodeWord_toNat (w : CmdWord) : (decodeWord w).op.toNat = w.toNat % 16 := by
  rw [op_decodeWord, opField_toNat]

/-- The mask 0xF leaves OP. -/
theorem and_opMask_toNat (w : CmdWord) : (w &&& 0xF#96).toNat = w.toNat % 16 := by
  rw [BitVec.toNat_and]
  exact Nat.and_two_pow_sub_one_eq_mod w.toNat 4

theorem and_opMask_eq_iff (w : CmdWord) (op : BitVec 4) :
    w &&& 0xF#96 = op.setWidth 96 ↔ (decodeWord w).op = op := by
  rw [← BitVec.toNat_inj, ← BitVec.toNat_inj, and_opMask_toNat, op_decodeWord_toNat,
    BitVec.toNat_setWidth_of_le (by decide)]

/-- The command a word is, for each row of the opcode map. -/
theorem op_eq_iff (i : Instr) :
    (i.op = 0x0#4 ↔ i = .reserved0) ∧
    (i.op = 0x1#4 ↔ ∃ chan spin mx my, i = .config chan spin mx my) ∧
    (i.op = 0x2#4 ↔ ∃ cx cy cyaw thr, i = .update cx cy cyaw thr) ∧
    (i.op = 0x3#4 ↔ i = .stop) ∧ (i.op = 0x4#4 ↔ i = .reserved4) ∧ (i.op = 0x5#4 ↔ i = .reserved5) ∧
    (i.op = 0x6#4 ↔ i = .reserved6) ∧ (i.op = 0x7#4 ↔ i = .reserved7) ∧ (i.op = 0x8#4 ↔ i = .reserved8) ∧
    (i.op = 0x9#4 ↔ i = .reserved9) ∧ (i.op = 0xA#4 ↔ i = .reservedA) ∧ (i.op = 0xB#4 ↔ i = .reservedB) ∧
    (i.op = 0xC#4 ↔ i = .reservedC) ∧ (i.op = 0xD#4 ↔ i = .reservedD) ∧ (i.op = 0xE#4 ↔ i = .reservedE) ∧
    (i.op = 0xF#4 ↔ i = .reservedF) := by
  cases i <;> simp [Instr.op]

/-- Settles O2: the masked value is the OP of the decoded command. -/
theorem opcodeMapPartitionsAllWords : Obligations.OpcodeMapPartitionsAllWords := by
  intro w
  refine ⟨⟨w.toNat % 16, Nat.mod_lt _ (by decide), ?_⟩, ?_⟩
  · rw [← and_opMask_toNat, BitVec.ofNat_toNat, BitVec.setWidth_eq]
  · have h := op_eq_iff (decodeWord w)
    simp only [← and_opMask_eq_iff] at h
    exact h

theorem decodeWord_of_op_config {w : CmdWord} (h : w.toNat % 16 = 1) : decodeWord w = decodeConfig w := by
  rw [decodeWord_eq_row, h]; rfl

theorem decodeWord_of_op_update {w : CmdWord} (h : w.toNat % 16 = 2) : decodeWord w = decodeUpdate w := by
  rw [decodeWord_eq_row, h]; rfl

/-- Settles O3: OP selects the row, and each field is the quotient of the word `field_eq_ofNat` gives. -/
theorem operandFieldsSitAtTheirBits : Obligations.OperandFieldsSitAtTheirBits := by
  intro w
  simp only [← field_eq_ofNat]
  refine ⟨decodeWord_of_op_config, decodeWord_of_op_update, fun hop => ?_⟩
  rw [decodeWord_eq_row, hop]; rfl

/-- A 16-bit field in two's complement (R78). -/
theorem sext16_field (w : CmdWord) (lo : Nat) :
    sext16 (field w lo 16) =
      if w.toNat / 2 ^ lo % 65536 < 32768 then ((w.toNat / 2 ^ lo % 65536 : Nat) : Int)
      else ((w.toNat / 2 ^ lo % 65536 : Nat) : Int) - 65536 := by
  rw [sext16, field_eq_ofNat, BitVec.toInt_eq_toNat_cond, BitVec.toNat_ofNat]
  split <;> split <;> omega

/-- An 8-bit field, unsigned (R80). -/
theorem zext8_field (w : CmdWord) (lo : Nat) : zext8 (field w lo 8) = ((w.toNat / 2 ^ lo % 256 : Nat) : Int) := by
  rw [zext8, field_eq_ofNat, BitVec.toNat_ofNat]

/-- Settles O4, by the reading of a 16-bit and of an 8-bit field. -/
theorem operandsAreReadSignedOrUnsigned : Obligations.OperandsAreReadSignedOrUnsigned := fun w =>
  ⟨fun hop => ⟨_, _, _, _, decodeWord_of_op_config hop, sext16_field w 16, zext8_field w 8⟩,
    fun hop => ⟨_, _, _, _, decodeWord_of_op_update hop, sext16_field w 16, sext16_field w 32, sext16_field w 48,
      sext16_field w 64⟩⟩

/-- Settles O1, by decoding the nine words. -/
theorem decodeOfSpecExamples : Obligations.DecodeOfSpecExamples := by
  unfold Obligations.DecodeOfSpecExamples
  decide

/-! ### The ignored bits (R72 to R74, R76, R77) -/

/-- The bits of a word that its command reads, by OP. -/
def keptMask (op : Nat) : CmdWord :=
  if op = 1 then 0xFFFFFFFFFFFFFFFFFFFFFF0F#96
  else if op = 2 then 0x0000FFFFFFFFFFFFFFFF000F#96
  else 0x00000000000000000000000F#96

/-- Encoding a decoded word keeps its OP, so only the operand bits are to be compared. -/
theorem encode_decodeWord_of_body {w : CmdWord} {m : BitVec 92} (h : (decodeWord w).body = field w 4 92 &&& m) :
    encode (decodeWord w) = w &&& (m ++ BitVec.allOnes 4) := by
  conv_rhs => rw [← body_append_op w, BitVec.and_append, BitVec.and_allOnes, ← h, ← op_decodeWord]
  rfl

theorem body_decodeConfig (w : CmdWord) :
    (decodeConfig w).body = field w 4 92 &&& (BitVec.allOnes 88 ++ 0#4) := by
  rw [← config_fields_append, BitVec.and_append, BitVec.and_allOnes, BitVec.and_zero]
  rfl

theorem body_decodeUpdate (w : CmdWord) :
    (decodeUpdate w).body = field w 4 92 &&& (0#16 ++ BitVec.allOnes 64 ++ 0#12) := by
  have hones : 0#16 ++ BitVec.allOnes 64 =
      0#16 ++ BitVec.allOnes 16 ++ BitVec.allOnes 16 ++ BitVec.allOnes 16 ++ BitVec.allOnes 16 := by decide
  rw [← update_fields_append, hones]
  iterate 5 rw [BitVec.and_append]
  rw [BitVec.and_zero, BitVec.and_zero]
  iterate 4 rw [BitVec.and_allOnes]
  rfl

/-- STOP and the reserved opcodes have no operand. -/
theorem body_of_op {i : Instr} (h1 : i.op.toNat ≠ 1) (h2 : i.op.toNat ≠ 2) : i.body = 0#92 := by
  cases i with
  | config => exact absurd rfl h1
  | update => exact absurd rfl h2
  | _ => rfl

/-- Each format's body keeps exactly the bits of its operands. -/
theorem encode_decodeWord (w : CmdWord) : encode (decodeWord w) = w &&& keptMask (w.toNat % 16) := by
  unfold keptMask
  split
  next h1 => exact encode_decodeWord_of_body (decodeWord_of_op_config h1 ▸ body_decodeConfig w)
  next h1 =>
    split
    next h2 => exact encode_decodeWord_of_body (decodeWord_of_op_update h2 ▸ body_decodeUpdate w)
    next h2 =>
      rw [← op_decodeWord_toNat] at h1 h2
      exact encode_decodeWord_of_body ((body_of_op h1 h2).trans BitVec.and_zero.symm)

/-- Settles O6: the kept bits are all but the ignored ones. -/
theorem encodeInvertsDecodeUpToIgnoredBits : Obligations.EncodeInvertsDecodeUpToIgnoredBits :=
  encode_decodeWord

/-- Words with one OP that agree on the bits it keeps are one command. -/
theorem decodeWord_eq_of_kept {w w' : CmdWord} (hop : w.toNat % 16 = w'.toNat % 16)
    (h : w &&& keptMask (w.toNat % 16) = w' &&& keptMask (w.toNat % 16)) : decodeWord w = decodeWord w' := by
  have henc : encode (decodeWord w) = encode (decodeWord w') := by
    rw [encode_decodeWord, encode_decodeWord, ← hop, h]
  rw [← decodeInvertsEncode (decodeWord w), henc, decodeInvertsEncode]

theorem and_eq_of_xor_and_eq_zero {w w' k : CmdWord} (h : (w ^^^ w') &&& k = 0#96) : w &&& k = w' &&& k := by
  ext j hj
  have hbit : ((w[j] ^^ w'[j]) && k[j]) = false := by simpa using congrArg (·[j]) h
  grind

/-- Words that differ only outside the bits their OP keeps are one command. -/
theorem decodeWord_eq_of_xor {w w' : CmdWord} {op : BitVec 4} (hop : w &&& 0xF#96 = op.setWidth 96)
    (hlow : keptMask op.toNat &&& 0xF#96 = 0xF#96) (h : (w ^^^ w') &&& keptMask op.toNat = 0#96) :
    decodeWord w = decodeWord w' := by
  have hkept := and_eq_of_xor_and_eq_zero h
  have hopNat : w.toNat % 16 = op.toNat := by
    rw [← op_decodeWord_toNat, (and_opMask_eq_iff w op).mp hop]
  have hopMask : w &&& 0xF#96 = w' &&& 0xF#96 := by
    rw [← hlow, ← BitVec.and_assoc, hkept, BitVec.and_assoc]
  refine decodeWord_eq_of_kept ?_ (hopNat ▸ hkept)
  rw [← and_opMask_toNat, hopMask, and_opMask_toNat]

/-- A step and a clock edge read a word only through its decoding. -/
theorem runs_alike_of_decodeWord_eq {w w' : CmdWord} (h : decodeWord w = decodeWord w') :
    (∀ (s : State) (rest : List HostInput), s.latch = none →
      step { s with inputs := .command w :: rest } = step { s with inputs := .command w' :: rest }) ∧
    (∀ (s : State) (rst valid : Bool), clockEdge ⟨rst, valid, w⟩ s = clockEdge ⟨rst, valid, w'⟩ s) := by
  refine ⟨fun s rest hl => ?_, fun s rst valid => by simp only [clockEdge, h]⟩
  rw [step_command (s := { s with inputs := .command w :: rest }) hl rfl,
    step_command (s := { s with inputs := .command w' :: rest }) hl rfl, h]
  rfl

/-- Settles O7: the words keep the same bits, so they are one command. -/
theorem reservedBitsAreIgnored : Obligations.ReservedBitsAreIgnored := by
  rintro w w' (⟨hop, h⟩ | ⟨hop, h⟩ | ⟨hop, h⟩)
  · exact runs_alike_of_decodeWord_eq (decodeWord_eq_of_xor (op := 1#4) hop (by decide) h)
  · exact runs_alike_of_decodeWord_eq (decodeWord_eq_of_xor (op := 2#4) hop (by decide) h)
  · exact runs_alike_of_decodeWord_eq (decodeWord_eq_of_xor (op := 3#4) hop (by decide) h)

/-! ### The reserved opcodes (R76) -/

theorem exec_of_reserved_op {i : Instr} (h : i.op.toNat = 0 ∨ 4 ≤ i.op.toNat) (s : State) : exec i s = .next s := by
  cases i with
  | config | update | stop => simp [Instr.op] at h
  | _ => rfl

theorem configOperands?_of_reserved_op {i : Instr} (h : i.op.toNat = 0 ∨ 4 ≤ i.op.toNat) :
    i.configOperands? = none := by
  cases i with
  | config => simp [Instr.op] at h
  | _ => rfl

/-- Settles O19: their OP values are 0 and 4 to 15. -/
theorem reservedOpcodesHaveNoEffect : Obligations.ReservedOpcodesHaveNoEffect := by
  intro s
  and_intros <;> exact exec_of_reserved_op (by decide) s

/-- Settles O20: acceptance alone changes the state. -/
theorem reservedWordsAreAcceptedWithNoEffect : Obligations.ReservedWordsAreAcceptedWithNoEffect := by
  intro s w rest hl hop
  rw [← op_decodeWord_toNat] at hop
  rw [step_command (s := { s with inputs := .command w :: rest }) hl rfl, clockEdge_accept hl,
    executeAtEdge_eq_exec (by simp [configOperands?_of_reserved_op hop]), exec_of_reserved_op hop,
    exec_of_reserved_op hop]
  exact ⟨rfl, rfl⟩

/-! ### Binary32 values (R79) -/

/-- The integer with the sign a sign bit gives it. -/
def withSign (neg : Bool) (v : Int) : Int := if neg then -v else v

@[simp] theorem withSign_withSign (neg : Bool) (v : Int) : withSign neg (withSign neg v) = v := by
  cases neg <;> simp [withSign]

theorem f32val_of_finite {b : F32} (he : f32Exponent b ≠ 255) :
    f32val b = some (withSign b.msb (f32Units b)) :=
  if_neg he

theorem f32val_nonfinite {b : F32} (he : f32Exponent b = 255) : f32val b = none :=
  if_pos he

theorem f32Units_of_subnormal {b : F32} (he : f32Exponent b = 0) : f32Units b = f32Fraction b :=
  if_pos he

theorem f32Units_of_normal {b : F32} (he : f32Exponent b ≠ 0) :
    f32Units b = (2 ^ 23 + f32Fraction b) * 2 ^ (f32Exponent b - 1) :=
  if_neg he

theorem f32_sign_eq (b : F32) : b.toNat / 2 ^ 31 = if b.msb then 1 else 0 := by
  have hlt := b.isLt
  have hmsb := f32_msb_eq_false_iff b
  split <;> simp [*] at hmsb <;> omega

theorem f32val_rat {b : F32} (he : f32Exponent b ≠ 255) :
    ∃ v : Int, f32val b = some v ∧ (v : ℚ) = (-1) ^ (b.toNat / 2 ^ 31) * (f32Units b : ℚ) := by
  refine ⟨_, f32val_of_finite he, ?_⟩
  rw [f32_sign_eq]
  cases b.msb <;> simp [withSign]

/-- Settles O21: the units of 2^-149 are the magnitude of each of the rule's formulas. -/
theorem binary32ValuesAreExact : Obligations.Binary32ValuesAreExact := by
  intro b
  simp only [← f32Exponent_eq, ← f32Fraction_eq]
  refine ⟨fun he => ?_, fun he => ?_, f32val_nonfinite⟩
  · obtain ⟨v, hv, hrat⟩ := f32val_rat (b := b) (by omega)
    obtain ⟨k, hk⟩ : ∃ k, f32Exponent b = k + 1 := ⟨f32Exponent b - 1, by omega⟩
    refine ⟨v, hv, ?_⟩
    have hpow : (2 : ℚ) ^ (((k + 1 : Nat) : Int) - 127) = 2 ^ k / 2 ^ 126 := by
      rw [show ((k + 1 : Nat) : Int) - 127 = (k : Int) - (126 : Nat) by push_cast; ring, zpow_sub₀ two_ne_zero,
        zpow_natCast, zpow_natCast]
    rw [hrat, f32Units_of_normal (by omega), hk, hpow, Nat.add_sub_cancel]
    push_cast
    field_simp
    ring
  · obtain ⟨v, hv, hrat⟩ := f32val_rat (b := b) (by omega)
    refine ⟨v, hv, ?_⟩
    rw [hrat, f32Units_of_subnormal he]
    norm_num
    ring

/-! ### The assembler (R82) -/

/-- The operands of a field with the range [lo, hi] and `rawEnd` raw patterns. -/
def InRange (lo hi : Int) (rawEnd : Nat) : AsmInt → Prop
  | .dec v => lo ≤ v ∧ v ≤ hi
  | .hex raw => raw < rawEnd

/-- A 16-bit field holds an operand's number, or its raw bits. -/
def IsHalf (b : Half) : AsmInt → Prop
  | .dec v => b.toInt = v
  | .hex raw => b.toNat = raw

/-- An 8-bit field holds an operand's number, or its raw bits. -/
def IsChan (b : Byte) : AsmInt → Prop
  | .dec v => (b.toNat : Int) = v
  | .hex raw => b.toNat = raw

theorem fitsHalf_iff (a : AsmInt) : a.fitsHalf = true ↔ InRange (-32768) 32767 65536 a := by
  cases a <;> exact decide_eq_true_iff

theorem fitsChan_iff (a : AsmInt) : a.fitsChan = true ↔ InRange 0 255 256 a := by
  cases a <;> exact decide_eq_true_iff

theorem isHalf_bits {a : AsmInt} (h : InRange (-32768) 32767 65536 a) : IsHalf (a.bits 16) a := by
  cases a with
  | dec v => exact toInt_ofInt16 h.1 h.2
  | hex raw => exact Nat.mod_eq_of_lt h

theorem isChan_bits {a : AsmInt} (h : InRange 0 255 256 a) : IsChan (a.bits 8) a := by
  cases a with
  | dec v =>
    obtain ⟨hlo, hhi⟩ := h
    simp only [IsChan, AsmInt.bits, BitVec.toNat_ofInt]
    omega
  | hex raw => exact Nat.mod_eq_of_lt h

theorem assemble_of_wellFormed {l : AsmLine} (h : l.WellFormed) : assemble l = .ok l.word := by
  simp only [assemble, h]

theorem assemble_of_problem {l : AsmLine} {e : AsmError} (h : l.problem? = some e) : assemble l = .error e := by
  simp only [assemble, h]

theorem assemble_update {cx cy cyaw thr : AsmInt}
    (h : InRange (-32768) 32767 65536 cx ∧ InRange (-32768) 32767 65536 cy ∧
      InRange (-32768) 32767 65536 cyaw ∧ InRange (-32768) 32767 65536 thr) :
    ∃ w a b c d, assemble (.update cx cy cyaw thr) = .ok w ∧ decodeWord w = .update a b c d ∧
      IsHalf a cx ∧ IsHalf b cy ∧ IsHalf c cyaw ∧ IsHalf d thr := by
  obtain ⟨hcx, hcy, hcyaw, hthr⟩ := h
  have hwf : (AsmLine.update cx cy cyaw thr).problem? = none := by
    simp [AsmLine.problem?, fitsHalf_iff, *]
  exact ⟨_, _, _, _, _, assemble_of_wellFormed hwf, decodeInvertsEncode _, isHalf_bits hcx, isHalf_bits hcy,
    isHalf_bits hcyaw, isHalf_bits hthr⟩

theorem assemble_update_intOutOfRange {cx cy cyaw thr : AsmInt}
    (h : ¬ (InRange (-32768) 32767 65536 cx ∧ InRange (-32768) 32767 65536 cy ∧
      InRange (-32768) 32767 65536 cyaw ∧ InRange (-32768) 32767 65536 thr)) :
    assemble (.update cx cy cyaw thr) = .error .intOutOfRange := by
  simp only [← fitsHalf_iff] at h
  exact assemble_of_problem (if_neg (by simpa [and_assoc] using h))

theorem assemble_config {chan spin : AsmInt} {mx my : AsmReal} {mxBits myBits : F32}
    (hchan : InRange 0 255 256 chan) (hspin : InRange (-32768) 32767 65536 spin) (hmx : mx.pattern? = some mxBits)
    (hmy : my.pattern? = some myBits) :
    ∃ w a b, assemble (.config chan spin mx my) = .ok w ∧ decodeWord w = .config a b mxBits myBits ∧
      IsChan a chan ∧ IsHalf b spin := by
  have hwf : (AsmLine.config chan spin mx my).problem? = none := by
    simp [AsmLine.problem?, (fitsChan_iff chan).mpr hchan, (fitsHalf_iff spin).mpr hspin, *]
  refine ⟨_, chan.bits 8, spin.bits 16, assemble_of_wellFormed hwf, ?_, isChan_bits hchan, isHalf_bits hspin⟩
  rw [AsmLine.word, decodeInvertsEncode, hmx, hmy]
  rfl

theorem assemble_config_chanOutOfRange {chan : AsmInt} (spin : AsmInt) (mx my : AsmReal)
    (h : ¬ InRange 0 255 256 chan) : assemble (.config chan spin mx my) = .error .chanOutOfRange := by
  rw [← fitsChan_iff] at h
  exact assemble_of_problem (if_pos (by simpa using h))

theorem assemble_config_intOutOfRange {chan spin : AsmInt} (mx my : AsmReal) (hchan : InRange 0 255 256 chan)
    (h : ¬ InRange (-32768) 32767 65536 spin) : assemble (.config chan spin mx my) = .error .intOutOfRange := by
  rw [← fitsHalf_iff] at h
  exact assemble_of_problem (by simp [AsmLine.problem?, (fitsChan_iff chan).mpr hchan, h])

theorem assemble_config_realOutOfRange {chan spin : AsmInt} {mx my : AsmReal} (hchan : InRange 0 255 256 chan)
    (hspin : InRange (-32768) 32767 65536 spin) (h : mx.pattern? = none ∨ my.pattern? = none) :
    assemble (.config chan spin mx my) = .error .realOutOfRange :=
  assemble_of_problem (by simp [AsmLine.problem?, (fitsChan_iff chan).mpr hchan, (fitsHalf_iff spin).mpr hspin, *])

theorem assemble_word96 {raw : Nat} (h : raw < 2 ^ 96) : ∃ w, assemble (.word96 raw) = .ok w ∧ w.toNat = raw :=
  ⟨_, assemble_of_wellFormed (if_pos h), Nat.mod_eq_of_lt h⟩

theorem assemble_word96_outOfRange {raw : Nat} (h : 2 ^ 96 ≤ raw) :
    assemble (.word96 raw) = .error .wordOutOfRange :=
  assemble_of_problem (if_neg (Nat.not_lt.mpr h))

/-- Settles O59: one lemma above for each line and each operand that is wrong. -/
theorem assemblerNeverWrapsAnOperand : Obligations.AssemblerNeverWrapsAnOperand :=
  ⟨fun _ _ _ _ => ⟨assemble_update, assemble_update_intOutOfRange⟩,
    fun _ spin mx my => ⟨fun _ _ => assemble_config, assemble_config_chanOutOfRange spin mx my,
      assemble_config_intOutOfRange mx my, assemble_config_realOutOfRange⟩,
    fun _ => rfl, fun _ _ _ => rfl, ⟨_, assemble_of_wellFormed rfl, decodeInvertsEncode .stop⟩,
    fun _ => ⟨assemble_word96, assemble_word96_outOfRange⟩⟩

/-! ### Real literals (R83)

The magnitude `num / den` is `n / den` units of 2^-149, with `n = num * 2^149`. It is rounded to a whole number `m` of
steps of 2^q units, which are `m * 2^q` units. -/

/-- The rounded number of steps `d` is at most half a step away from `n`, and even at exactly half a step. -/
theorem roundHalfEven_spec (n : Nat) {d : Nat} (hd : 0 < d) :
    2 * |(roundHalfEven n d * d - n : Int)| ≤ d ∧
    (2 * |(roundHalfEven n d * d - n : Int)| = d → roundHalfEven n d % 2 = 0) := by
  have hdiv : ((n / d : Nat) : Int) * d + (n % d : Nat) = n := by exact_mod_cast Nat.div_add_mod' n d
  have hmod := Nat.mod_lt n hd
  unfold roundHalfEven
  generalize n / d = c at *
  generalize n % d = r at *
  split
  next hdown => grind
  next =>
    split
    next hup => grind
    next htie => split <;> grind

/-- `a` is as near to `n` as `b` is, and when another `b` is as near, `m` is even (R83). -/
def NearestEven (m : Nat) (n a b : Int) : Prop :=
  |a - n| ≤ |b - n| ∧ (b ≠ a → |a - n| = |b - n| → m % 2 = 0)

/-- Another number of steps is a whole step away, so at least half a step from `n`. -/
theorem roundHalfEven_nearest (n : Nat) {d : Nat} (hd : 0 < d) (k : Int) :
    NearestEven (roundHalfEven n d) n (roundHalfEven n d * d) (k * d) := by
  obtain ⟨hhalf, heven⟩ := roundHalfEven_spec n hd
  generalize roundHalfEven n d = m at *
  obtain hk | rfl | hk := lt_trichotomy k m
  · have hstep : (k + 1) * d ≤ m * d := Int.mul_le_mul_of_nonneg_right hk (by omega)
    unfold NearestEven
    grind
  · exact ⟨le_refl _, fun h => absurd rfl h⟩
  · have hstep : (m + 1) * (d : Int) ≤ k * d := Int.mul_le_mul_of_nonneg_right hk (by omega)
    unfold NearestEven
    grind

/-- `f32Place` answers the doubled denominator, and stops at the first place at which the significand is below 2^24, so
that before it, at half that denominator, it is not. -/
theorem f32Place_spec (n den fuel q : Nat) : ∃ p, f32Place n fuel q (den * 2 ^ q) = (p, den * 2 ^ p) ∧
    (p = q ∨ den * 2 ^ p * 2 ^ 23 ≤ n) ∧ q ≤ p ∧ p ≤ q + fuel ∧ (p = q + fuel ∨ n < den * 2 ^ p * 2 ^ 24) := by
  induction fuel generalizing q with
  | zero => exact ⟨q, rfl, .inl rfl, le_refl _, le_refl _, .inl rfl⟩
  | succ fuel ih =>
    rw [f32Place]
    split
    next hlt => exact ⟨q, rfl, .inl rfl, le_refl _, by omega, .inr hlt⟩
    next hge =>
      obtain ⟨p, heq, hlow, hqp, hpf, hhigh⟩ := ih (q + 1)
      have hdouble : den * 2 ^ (q + 1) = 2 * (den * 2 ^ q) := by ring
      refine ⟨p, hdouble ▸ heq, ?_, by omega, by omega, by omega⟩
      obtain rfl | hlow := hlow
      · exact .inr (by rw [hdouble]; omega)
      · exact .inr hlow

theorem roundHalfEven_bounds (n d : Nat) : n / d ≤ roundHalfEven n d ∧ roundHalfEven n d ≤ n / d + 1 := by
  unfold roundHalfEven
  split_ifs <;> omega

/-- The rounding is below an even number `2 * k` exactly when `n` is below it by more than half a step. -/
theorem roundHalfEven_lt_iff (n k : Nat) {d : Nat} (hd : 0 < d) :
    roundHalfEven n d < 2 * k ↔ 2 * n + d < 2 * (2 * k * d) := by
  have hdiv := Nat.div_add_mod' n d
  have hmod := Nat.mod_lt n hd
  unfold roundHalfEven
  generalize n / d = c at *
  generalize n % d = r at *
  obtain hc | hc | hc : c + 2 ≤ 2 * k ∨ c + 1 = 2 * k ∨ 2 * k ≤ c := by omega
  · have hkd : (c + 2) * d ≤ 2 * k * d := Nat.mul_le_mul_right d hc
    grind
  · rw [← hc]
    grind
  · have hkd : 2 * k * d ≤ c * d := Nat.mul_le_mul_right d hc
    grind

theorem f32Fraction_lt (b : F32) : f32Fraction b < 2 ^ 23 := by
  rw [f32Fraction_eq]
  exact Nat.mod_lt _ (by decide)

/-- A magnitude is a whole number of steps of 2^q units, or it is smaller than every significand of place q that has its
leading bit set. -/
theorem f32Units_on_grid (b : F32) (q : Nat) :
    (∃ k : Nat, f32Units b = k * 2 ^ q) ∨ f32Units b < 2 ^ 23 * 2 ^ q := by
  have hf := f32Fraction_lt b
  by_cases he : f32Exponent b = 0
  · rw [f32Units_of_subnormal he]
    exact .inr (Nat.lt_of_lt_of_le hf (Nat.le_mul_of_pos_right _ (Nat.two_pow_pos q)))
  · rw [f32Units_of_normal he]
    obtain ⟨e, hk⟩ : ∃ e, f32Exponent b = e + 1 := ⟨f32Exponent b - 1, by omega⟩
    rw [hk, Nat.add_sub_cancel]
    by_cases hq : q ≤ e
    · refine .inl ⟨(2 ^ 23 + f32Fraction b) * 2 ^ (e - q), ?_⟩
      rw [Nat.mul_assoc, ← pow_add, Nat.sub_add_cancel hq]
    · refine .inr ?_
      calc (2 ^ 23 + f32Fraction b) * 2 ^ e < 2 ^ 24 * 2 ^ e :=
            Nat.mul_lt_mul_of_pos_right (by omega) (Nat.two_pow_pos e)
        _ = 2 ^ 23 * 2 ^ (e + 1) := by ring
        _ ≤ 2 ^ 23 * 2 ^ q := Nat.mul_le_mul_left _ (Nat.pow_le_pow_right two_pos (by omega))

/-- The same of a signed value, as `f32val_on_grid` says. -/
def OnGrid (v : Int) (q : Nat) : Prop := (∃ k : Int, v = k * 2 ^ q) ∨ |v| < 2 ^ 23 * 2 ^ q

theorem OnGrid.neg {v : Int} {q : Nat} (h : OnGrid v q) : OnGrid (-v) q := by
  obtain ⟨k, rfl⟩ | h := h
  · exact .inl ⟨-k, (neg_mul k _).symm⟩
  · exact .inr (by rwa [abs_neg])

theorem OnGrid.withSign {v : Int} {q : Nat} (h : OnGrid v q) (neg : Bool) : OnGrid (withSign neg v) q := by
  cases neg with
  | false => exact h
  | true => exact h.neg

theorem f32val_on_grid {b : F32} {v : Int} (h : f32val b = some v) (q : Nat) : OnGrid v q := by
  have hunits : OnGrid (f32Units b : Int) q := by
    obtain ⟨k, hk⟩ | hlt := f32Units_on_grid b q
    · exact .inl ⟨k, by exact_mod_cast hk⟩
    · exact .inr (by rw [abs_of_nonneg (Int.natCast_nonneg _)]; exact_mod_cast hlt)
  by_cases he : f32Exponent b = 255
  · simp [f32val_nonfinite he] at h
  · rw [f32val_of_finite he] at h
    cases h
    exact hunits.withSign b.msb

/-- The rounded significand is nearest: a value off its grid is farther from `n` than the least significand 2^23 of
its place. -/
theorem significand_nearest {n den q : Nat} (hden : 0 < den) (hlow : q = 0 ∨ den * 2 ^ q * 2 ^ 23 ≤ n) {v : Int}
    (hv : OnGrid v q) :
    NearestEven (roundHalfEven n (den * 2 ^ q)) n (roundHalfEven n (den * 2 ^ q) * 2 ^ q * den) (v * den) := by
  have hd : 0 < den * 2 ^ q := Nat.mul_pos hden (Nat.two_pow_pos q)
  have hgrid (k : Int) : NearestEven (roundHalfEven n (den * 2 ^ q)) n (roundHalfEven n (den * 2 ^ q) * 2 ^ q * den)
      (k * 2 ^ q * den) := by
    convert roundHalfEven_nearest n hd k using 1 <;> push_cast <;> ring
  obtain ⟨k, rfl⟩ | hsmall := hv
  · exact hgrid k
  obtain rfl | hlow := hlow
  · simpa using hgrid v
  have hlt : v * den < 2 ^ 23 * 2 ^ q * den :=
    Int.mul_lt_mul_of_pos_right (lt_of_abs_lt hsmall) (by exact_mod_cast hden)
  have hle : (2 ^ 23 * 2 ^ q * den : Int) ≤ n := by
    calc (2 ^ 23 * 2 ^ q * den : Int) = (den * 2 ^ q * 2 ^ 23 : Nat) := by push_cast; ring
      _ ≤ n := by exact_mod_cast hlow
  have hnear := (hgrid (2 ^ 23)).1
  have hfar : |2 ^ 23 * 2 ^ q * (den : Int) - n| < |v * den - n| := by
    rw [abs_of_nonpos (by omega), abs_of_nonpos (by omega)]
    omega
  exact ⟨by omega, fun _ h => absurd h (by omega)⟩

/-- A significand `m` at place `q` is `m * 2^q` units; a carry to 2^24 is the next exponent with fraction 0. -/
theorem f32Units_of_significand {b : F32} {q m : Nat} (he : f32Exponent b = (q * 2 ^ 23 + m) / 2 ^ 23)
    (hf : f32Fraction b = (q * 2 ^ 23 + m) % 2 ^ 23) (hlow : q = 0 ∨ 2 ^ 23 ≤ m) (hhigh : m ≤ 2 ^ 24) :
    f32Units b = m * 2 ^ q := by
  obtain hm | ⟨hm, hm'⟩ | rfl : m < 2 ^ 23 ∨ (2 ^ 23 ≤ m ∧ m < 2 ^ 24) ∨ m = 2 ^ 24 := by omega
  · obtain rfl : q = 0 := by omega
    rw [f32Units_of_subnormal (by omega)]
    omega
  · have he' : f32Exponent b = q + 1 := by omega
    have hf' : 2 ^ 23 + f32Fraction b = m := by omega
    rw [f32Units_of_normal (by omega), he', hf', Nat.add_sub_cancel]
  · have he' : f32Exponent b = q + 1 + 1 := by omega
    have hf' : f32Fraction b = 0 := by omega
    rw [f32Units_of_normal (by omega), he', hf', Nat.add_sub_cancel]
    ring

/-- The fields of the pattern are those of its magnitude, with the sign. -/
theorem f32Nearest_fields {neg : Bool} {num den : Nat} {b : F32} (h : f32Nearest neg num den = some b) :
    f32NearestMagnitude num den < 0x7F800000 ∧ f32Exponent b = f32NearestMagnitude num den / 2 ^ 23 ∧
    f32Fraction b = f32NearestMagnitude num den % 2 ^ 23 ∧ b.msb = neg ∧
    b.toNat % 2 = f32NearestMagnitude num den % 2 := by
  unfold f32Nearest at h
  generalize f32NearestMagnitude num den = mag at *
  dsimp only at h
  split at h
  next hlt =>
    cases h
    rw [f32Exponent_eq, f32Fraction_eq, BitVec.msb_eq_decide, BitVec.toNat_ofNat]
    cases neg <;> simp <;> omega
  next => cases h

theorem f32Nearest_eq_none_iff (neg : Bool) (num den : Nat) :
    f32Nearest neg num den = none ↔ 0x7F800000 ≤ f32NearestMagnitude num den := by
  unfold f32Nearest
  dsimp only
  split <;> simp <;> omega

/-- The place of a literal and its significand, whose leading bit is set unless the place is the lowest. -/
theorem f32NearestMagnitude_spec (num : Nat) {den : Nat} (hden : 0 < den) :
    ∃ q m, m = roundHalfEven (num * 2 ^ 149) (den * 2 ^ q) ∧ f32NearestMagnitude num den = q * 2 ^ 23 + m ∧
      (q = 0 ∨ den * 2 ^ q * 2 ^ 23 ≤ num * 2 ^ 149 ∧ 2 ^ 23 ≤ m) ∧ q ≤ 254 ∧
      (q = 254 ∨ num * 2 ^ 149 < den * 2 ^ q * 2 ^ 24 ∧ m ≤ 2 ^ 24) := by
  obtain ⟨q, hplace, hlow, -, hq, hhigh⟩ := f32Place_spec (num * 2 ^ 149) den 254 0
  rw [pow_zero, Nat.mul_one] at hplace
  have hd : 0 < den * 2 ^ q := Nat.mul_pos hden (Nat.two_pow_pos q)
  obtain ⟨hge, hle⟩ := roundHalfEven_bounds (num * 2 ^ 149) (den * 2 ^ q)
  refine ⟨q, _, rfl, by rw [f32NearestMagnitude, hplace], hlow.imp_right fun h => ⟨h, ?_⟩, by omega,
    hhigh.imp (by omega) fun h => ⟨h, ?_⟩⟩
  · exact Nat.le_trans ((Nat.le_div_iff_mul_le hd).mpr (by omega)) hge
  · have hlt := Nat.div_lt_of_lt_mul h
    omega

theorem f32NearestMagnitude_overflows_iff (num : Nat) {den : Nat} (hden : 0 < den) :
    0x7F800000 ≤ f32NearestMagnitude num den ↔ (2 ^ 128 - 2 ^ 103) * den ≤ num := by
  obtain ⟨q, m, hm, hmag, hlow, hq, hhigh⟩ := f32NearestMagnitude_spec num hden
  rw [hmag]
  obtain hq' | rfl | rfl : q ≤ 252 ∨ q = 253 ∨ q = 254 := by omega
  · have hstep : den * 2 ^ q ≤ den * 2 ^ 252 := Nat.mul_le_mul_left den (Nat.pow_le_pow_right two_pos hq')
    omega
  · have hcarry := roundHalfEven_lt_iff (num * 2 ^ 149) (2 ^ 23) (d := den * 2 ^ 253) (by omega)
    omega
  · omega

/-- The distance of a value from a literal, as a fraction of whole numbers. -/
theorem literal_distance (neg : Bool) (v : Int) (num : Nat) {den : Nat} (hden : 0 < den) :
    |(v : ℚ) / 2 ^ 149 - (if neg then -(num : ℚ) else num) / den| =
      (|withSign neg v * den - (num * 2 ^ 149 : Nat)| : Int) / (2 ^ 149 * den : ℚ) := by
  have hden' : (den : ℚ) ≠ 0 := by exact_mod_cast hden.ne'
  have hscale : (0 : ℚ) < 2 ^ 149 * den := by positivity
  rw [eq_div_iff hscale.ne', ← abs_of_pos hscale, ← abs_mul]
  cases neg with
  | false =>
    simp only [withSign, Bool.false_eq_true, if_false]
    push_cast
    congr 1
    field_simp
    ring
  | true =>
    rw [← abs_neg]
    simp only [withSign, if_true]
    push_cast
    congr 1
    field_simp
    ring

/-- Scaling and a common sign do not change which value is nearest to a literal. -/
theorem NearestEven.literal {neg : Bool} {m num den : Nat} {v v' : Int} (hden : 0 < den)
    (h : NearestEven m (num * 2 ^ 149 : Nat) (withSign neg v * den) (withSign neg v' * den)) :
    let target : ℚ := (if neg then -(num : ℚ) else (num : ℚ)) / den
    |(v : ℚ) / 2 ^ 149 - target| ≤ |(v' : ℚ) / 2 ^ 149 - target| ∧
    (v' ≠ v → |(v : ℚ) / 2 ^ 149 - target| = |(v' : ℚ) / 2 ^ 149 - target| → m % 2 = 0) := by
  obtain ⟨hle, heven⟩ := h
  have hscale : (0 : ℚ) < 2 ^ 149 * den := by positivity
  dsimp only
  rw [literal_distance neg v num hden, literal_distance neg v' num hden, div_le_div_iff_of_pos_right hscale,
    div_left_inj' hscale.ne']
  refine ⟨by exact_mod_cast hle, fun hne heq => heven (fun h => hne ?_) (by exact_mod_cast heq)⟩
  have hsigned := Int.eq_of_mul_eq_mul_right (by omega) h
  simpa using congrArg (withSign neg) hsigned

/-- Settles O60: the rounded significand is nearest on the grid of its place, and overflows from 2^128 - 2^103 on. -/
theorem literalsRoundToNearestEven : Obligations.LiteralsRoundToNearestEven := by
  intro neg num den hden
  refine ⟨fun b hb => ?_, (f32Nearest_eq_none_iff neg num den).trans (f32NearestMagnitude_overflows_iff num hden)⟩
  obtain ⟨hlt, hexp, hfrac, hsign, hparity⟩ := f32Nearest_fields hb
  obtain ⟨q, m, hm, hmag, hlow, _, hhigh⟩ := f32NearestMagnitude_spec num hden
  rw [hmag] at hlt hexp hfrac hparity
  have hunits := f32Units_of_significand hexp hfrac (hlow.imp_right And.right) (by omega)
  have hval : f32val b = some (withSign neg (f32Units b)) := hsign ▸ f32val_of_finite (by omega)
  refine ⟨_, hval, fun b' v' hv' => ?_⟩
  have hnear : NearestEven m (num * 2 ^ 149 : Nat) (withSign neg (withSign neg (f32Units b)) * den)
      (withSign neg v' * den) := by
    rw [withSign_withSign, hunits, hm]
    exact_mod_cast significand_nearest hden (hlow.imp_right And.left) ((f32val_on_grid hv' q).withSign neg)
  obtain ⟨hle, heven⟩ := hnear.literal hden
  refine ⟨hle, fun hne heq => ?_⟩
  have hmEven := heven hne heq
  omega

end Sys2Proof.Machine
end

section
/-! PROOFS. The statements of 40_motor_mixer.md: CONFIG as a command (R106 to R111) and over the clock edges it takes
(R109), a motor with zero gains (R106), and NORM over the integers and over the real numbers (R100 to R105). -/

namespace Sys2Proof.Machine

/-! ### CONFIG as a command (R106 to R108, R110, R111) -/

theorem exec_config_ignored {s : State} {mx my : F32} (h : s.cfgDone = true ∨ f32val mx = none ∨ f32val my = none)
    (chan : Byte) (spin : Half) : exec (.config chan spin mx my) s = .next s :=
  execConfig_ignored (configResult?_eq_none h)

theorem exec_config_performed {s : State} {mx my : F32} {g : Int × Int} (h : s.configResult? mx my = some g)
    (chan : Byte) (spin : Half) : exec (.config chan spin mx my) s = .next (s.performConfig g.1 g.2 spin chan) :=
  execConfig_performed h

/-- A CONFIG of an unconfigured block with two finite positions will be performed. -/
theorem exists_configResult? {s : State} {mx my : F32} (hc : s.cfgDone = false) (hx : f32val mx ≠ none)
    (hy : f32val my ≠ none) : ∃ g, s.configResult? mx my = some g := by
  obtain ⟨x, hx⟩ := Option.ne_none_iff_exists'.mp hx
  obtain ⟨y, hy⟩ := Option.ne_none_iff_exists'.mp hy
  exact ⟨_, configResult?_of_finite hc hx hy⟩

/-- Settles O13: the writes of `State.performConfig` are those of the pseudocode. -/
theorem configPerformed : Obligations.ConfigPerformed := fun _ chan spin _ _ =>
  ⟨fun hc => exec_config_ignored (.inl hc) chan spin, fun _ hnone => exec_config_ignored (.inr hnone) chan spin,
    fun _ _ hc hx hy => exec_config_performed (configResult?_of_finite hc hx hy) chan spin⟩

/-- Settles O14: a reset leaves the block unconfigured, so that a finite CONFIG is performed. -/
theorem configWhenConfiguredHasNoEffect : Obligations.ConfigWhenConfiguredHasNoEffect := by
  refine ⟨fun s chan spin mx my hc => exec_config_ignored (.inl hc) chan spin, fun i s t hc h => ?_,
    fun s t chan spin mx my x y hx hy h => ?_⟩
  · obtain ⟨hcfg, hgx, hgy, hspin, hchan⟩ := exec_keeps_configured_motor h hc
    exact ⟨hgx, hgy, hspin, hchan, hcfg⟩
  · cases (exec_config_performed (configResult?_of_finite s.applyReset_cfgDone hx hy) chan spin).symm.trans h
    exact ⟨rfl, rfl⟩

/-- NONFINITE read on the bits of a pattern (R79). -/
theorem f32val_eq_none_iff (b : F32) : f32val b = none ↔ b.toNat / 2 ^ 23 % 256 = 255 := by
  rw [← f32Exponent_eq]
  by_cases he : f32Exponent b = 255
  · simp [f32val_nonfinite he, he]
  · simp [f32val_of_finite he, he]

/-- Settles O15: the exponent field decides whether the CONFIG is performed. -/
theorem nonFiniteConfigHasNoEffect : Obligations.NonFiniteConfigHasNoEffect := by
  intro s chan chan' spin spin' mx my mx' my' hc hnone
  simp only [← f32val_eq_none_iff, ne_eq] at hnone ⊢
  refine ⟨exec_config_ignored (.inr hnone) chan spin, fun hx hy => ?_⟩
  obtain ⟨g, hg⟩ := exists_configResult? hc hx hy
  exact ⟨_, exec_config_performed hg chan' spin', rfl, rfl⟩

/-! ### A motor with zero gains (R106, R140) -/

theorem contribution_zero_gain (c : Half) : contribution c 0 = 0 := by
  simp [contribution, mulh, shiftRight, sext16]

theorem accumulate_of_zero_gains (m : YawMode) (spin cx cy cyaw thr : Half) :
    accumulate m 0 0 spin cx cy cyaw thr = sext16 thr + yawTerm m spin cyaw := by
  rw [accumulate, contribution_zero_gain, contribution_zero_gain, add_zero, add_zero]

/-- Settles O38: with zero gains ACC does not depend on the roll and pitch commands. -/
theorem zeroGainsIgnoreRollAndPitch : Obligations.ZeroGainsIgnoreRollAndPitch := by
  intro s cx cy cx' cy' cyaw thr hc hgx hgy
  have hmix (a b : Half) : s.mix a b cyaw thr =
      dutyOf (saturate s.params (sext16 thr + yawTerm s.params.yawMode s.spin cyaw)) := by
    rw [State.mix, mixDuty, hgx, hgy, accumulate_of_zero_gains]
  constructor
  · simp only [exec, execUpdate_performed hc, hmix]
  · rw [hgx, hgy, accumulate_of_zero_gains]

/-! ### CONFIG over its clock edges (R109) -/

/-- The state while a CONFIG is in progress: only the latch is filled, and no sink write is driven. -/
def State.inProgress (s : State) (ops : ConfigOperands) (edges : Nat) : State :=
  { s.endCycle with latch := some { ops := ops, edgesLeft := edges } }

/-- An edge that is not the last one counts one edge down, whatever the command pins show. -/
theorem clockEdge_inProgress {p : Pins} (hr : p.rst = false) (s : State) (ops : ConfigOperands) (n : Nat) :
    clockEdge p (s.inProgress ops (n + 2)) = .next (s.inProgress ops (n + 1)) := by
  rw [clockEdge_busy hr rfl, State.advanceConfig, if_neg (by simp)]
  rfl

/-- The last edge performs the CONFIG. -/
theorem clockEdge_inProgress_last {p : Pins} (hr : p.rst = false) {s : State} {ops : ConfigOperands} {g : Int × Int}
    (hg : s.configResult? ops.mx ops.my = some g) :
    clockEdge p (s.inProgress ops 1) = .next (s.performConfig g.1 g.2 ops.spin ops.chan) := by
  have hg' : (s.inProgress ops 1).endCycle.configResult? ops.mx ops.my = some g := hg
  rw [clockEdge_busy hr rfl, State.advanceConfig, if_pos (le_refl 1), State.finishConfig, hg']
  rfl

theorem runEdges_cons {p : Pins} {s t : State} (h : clockEdge p s = .next t) (ps : List Pins) :
    runEdges (p :: ps) s = runEdges ps t := by
  simp only [runEdges, h]

/-- Fewer edges than are left leave the CONFIG in progress. -/
theorem runEdges_inProgress (s : State) (ops : ConfigOperands) (n : Nat) {later : List Pins}
    (hr : ∀ p ∈ later, p.rst = false) :
    runEdges later (s.inProgress ops (later.length + (n + 1))) = .next (s.inProgress ops (n + 1)) := by
  induction later with
  | nil => rw [List.length_nil, Nat.zero_add, runEdges]
  | cons p ps ih =>
    obtain ⟨hp, hps⟩ := List.forall_mem_cons.mp hr
    have hlen : (p :: ps).length + (n + 1) = ps.length + n + 2 := by rw [List.length_cons]; omega
    rw [hlen, runEdges_cons (clockEdge_inProgress hp s ops _)]
    exact ih hps

/-- As many edges as are left, at least one, perform the CONFIG at the last of them. -/
theorem runEdges_inProgress_completes {s : State} {ops : ConfigOperands} {g : Int × Int}
    (hg : s.configResult? ops.mx ops.my = some g) {p : Pins} {ps : List Pins} (hr : ∀ q ∈ p :: ps, q.rst = false) :
    runEdges (p :: ps) (s.inProgress ops (ps.length + 1)) =
      .next (s.performConfig g.1 g.2 ops.spin ops.chan) := by
  induction ps generalizing p with
  | nil => exact runEdges_cons (clockEdge_inProgress_last (hr p List.mem_cons_self) hg) []
  | cons q qs ih =>
    obtain ⟨hp, hqs⟩ := List.forall_mem_cons.mp hr
    rw [List.length_cons, runEdges_cons (clockEdge_inProgress hp s ops _)]
    exact ih hqs

section
variable {s : State} {w : CmdWord} {chan : Byte} {spin : Half} {mx my : F32} {g : Int × Int} (hl : s.latch = none)
  (hw : decodeWord w = .config chan spin mx my) (hg : s.configResult? mx my = some g)
include hl hw hg

/-- With CONFIG_LATENCY = 1 the accepting edge performs the CONFIG. -/
theorem clockEdge_config_of_latency_one (hlat : s.params.configLatency = 1) :
    clockEdge ⟨false, true, w⟩ s = .next (s.accept.performConfig g.1 g.2 spin chan) := by
  have hg' : s.accept.configResult? mx my = some g := hg
  rw [clockEdge_accept hl, hw]
  simp [State.executeAtEdge, Instr.configOperands?, State.beginConfig, hlat, execConfig_performed hg']

/-- With a greater CONFIG_LATENCY it starts the CONFIG. -/
theorem clockEdge_config_begins {n : Nat} (hlat : s.params.configLatency = n + 2) :
    clockEdge ⟨false, true, w⟩ s =
      .next (s.accept.inProgress { chan := chan, spin := spin, mx := mx, my := my } (n + 1)) := by
  have hg' : s.accept.configResult? mx my = some g := hg
  rw [clockEdge_accept hl, hw]
  simp [State.executeAtEdge, Instr.configOperands?, State.beginConfig, hlat, hg', State.inProgress]

/-- CONFIG_LATENCY edges perform the CONFIG. -/
theorem runEdges_config_performed {later : List Pins} (hlat : later.length + 1 = s.params.configLatency)
    (hr : ∀ p ∈ later, p.rst = false) :
    runEdges (⟨false, true, w⟩ :: later) s = .next (s.accept.performConfig g.1 g.2 spin chan) := by
  cases later with
  | nil => exact runEdges_cons (clockEdge_config_of_latency_one hl hw hg hlat.symm) []
  | cons p ps =>
    rw [runEdges_cons (clockEdge_config_begins hl hw hg hlat.symm)]
    exact runEdges_inProgress_completes (s := s.accept)
      (ops := { chan := chan, spin := spin, mx := mx, my := my }) hg hr

end

/-- Settles O52: both sides perform the CONFIG in the state that has accepted it. -/
theorem cycleLevelConfigRefinesTheStep : Obligations.CycleLevelConfigRefinesTheStep := by
  intro s w chan spin mx my rest later hl hc hw hx hy hlat hr
  obtain ⟨g, hg⟩ := exists_configResult? hc hx hy
  rw [runEdges_config_performed (s := { s with inputs := rest }) hl hw hg hlat hr,
    step_command (s := { s with inputs := .command w :: rest }) hl rfl, hw]
  exact (exec_config_performed (s := { s with inputs := rest }.accept) hg chan spin).symm

/-- Settles O53: `State.inProgress` differs from the accepting state in the latch alone. -/
theorem cycleLevelConfigIsBusyUntilItsLastEdge : Obligations.CycleLevelConfigIsBusyUntilItsLastEdge := by
  intro s w chan spin mx my later hl hc hw hx hy hlat hr
  obtain ⟨g, hg⟩ := exists_configResult? hc hx hy
  obtain ⟨n, hn⟩ : ∃ n, s.params.configLatency = later.length + n + 2 :=
    ⟨s.params.configLatency - later.length - 2, by omega⟩
  refine ⟨s.accept.inProgress { chan := chan, spin := spin, mx := mx, my := my } (n + 1), ?_, rfl, rfl, rfl, rfl, rfl,
    rfl⟩
  rw [runEdges_cons (clockEdge_config_begins hl hw hg hn)]
  exact runEdges_inProgress s.accept _ n hr

/-! ### NORM as one equation (R100, R101, R103) -/

/-- The `n2` of `normVec`. -/
def sqLen (x y : Int) : Nat := x.natAbs * x.natAbs + y.natAbs * y.natAbs

theorem sqLen_comm (x y : Int) : sqLen y x = sqLen x y := Nat.add_comm _ _

theorem sqLen_cast (x y : Int) : (sqLen x y : Int) = x * x + y * y := by
  simp [sqLen]

theorem normVec_eq (eps x y : Int) :
    normVec eps x y = if |x| + |y| ≤ eps then (0, 0) else (gainOf x (sqLen x y), gainOf y (sqLen x y)) := by
  rw [Int.abs_eq_natAbs, Int.abs_eq_natAbs]
  split
  next h => exact if_pos (decide_eq_true h)
  next h => exact normVec_eq_of_not_degenerate (decide_eq_false h)

theorem normVec_of_degenerate {eps x y : Int} (h : |x| + |y| ≤ eps) : normVec eps x y = (0, 0) := by
  rw [normVec_eq, if_pos h]

theorem normVec_of_lt {eps x y : Int} (h : eps < |x| + |y|) :
    normVec eps x y = (gainOf x (sqLen x y), gainOf y (sqLen x y)) := by
  rw [normVec_eq, if_neg (Int.not_le.mpr h)]

/-! ### One gain (R102)

Both gains are `gainOf` of a component of the position, so what R102 says of a gain is said of any component. -/

/-- `c` is a component of a vector that is not zero and has the squared length `n2`. -/
structure IsComponent (c : Int) (n2 : Nat) : Prop where
  pos : 0 < n2
  le : c * c ≤ n2

theorem IsComponent.of_lt {eps x y : Int} (h0 : 0 ≤ eps) (h : eps < |x| + |y|) :
    IsComponent x (sqLen x y) ∧ IsComponent y (sqLen x y) := by
  have hpos : 0 < sqLen x y := by
    by_contra hzero
    obtain ⟨rfl, rfl⟩ : x = 0 ∧ y = 0 := by simpa [sqLen] using hzero
    exact absurd h0 (by simpa using h)
  refine ⟨⟨hpos, ?_⟩, hpos, ?_⟩
  · rw [sqLen_cast]; exact le_add_of_nonneg_right (mul_self_nonneg y)
  · rw [sqLen_cast]; exact le_add_of_nonneg_left (mul_self_nonneg x)

/-- The test of R102 over the integers. -/
theorem gainFits_iff (c : Int) (n2 k : Nat) :
    gainFits (c.natAbs * c.natAbs) n2 k ↔ (k : Int) * k * n2 ≤ 32767 * 32767 * (c * c) := by
  rw [gainFits, ← Int.natAbs_mul_self (a := c)]
  norm_cast

/-- The bound 32767 of R102's `k` is implied by its test, since a component is no longer than its vector. -/
theorem le_gainMagnitude_iff {c : Int} {n2 : Nat} (h : IsComponent c n2) (k : Nat) :
    k ≤ gainMagnitude c n2 ↔ (k : Int) * k * n2 ≤ 32767 * 32767 * (c * c) := by
  obtain ⟨hmax, _, hspec⟩ := gainMagnitude_spec c n2
  rw [← gainFits_iff]
  by_cases hk : k ≤ 32767
  · exact hspec k hk
  · refine iff_of_false (by omega) fun hfit => ?_
    rw [gainFits_iff] at hfit
    have hn2 : (0 : Int) < n2 := by exact_mod_cast h.pos
    have hle : (k : Int) * k ≤ 32767 * 32767 :=
      le_of_mul_le_mul_right (hfit.trans (Int.mul_le_mul_of_nonneg_left h.le (by decide))) hn2
    exact hk (Nat.mul_self_le_mul_self_iff.mp (by exact_mod_cast hle))

theorem gainMagnitude_zero {n2 : Nat} (h : 0 < n2) : gainMagnitude 0 n2 = 0 := by
  have hone : ¬ 1 ≤ gainMagnitude 0 n2 := by
    rw [le_gainMagnitude_iff ⟨h, by simp⟩]
    simpa using h.ne'
  omega

theorem gainMagnitude_neg (c : Int) (n2 : Nat) : gainMagnitude (-c) n2 = gainMagnitude c n2 := by
  rw [gainMagnitude, Int.natAbs_neg, gainMagnitude]

theorem gainOf_eq_sign_mul (c : Int) (n2 : Nat) : gainOf c n2 = c.sign * gainMagnitude c n2 := by
  unfold gainOf
  obtain hc | rfl | hc := lt_trichotomy c 0
  · rw [if_pos hc, Int.sign_eq_neg_one_of_neg hc, neg_one_mul]
  · simp
  · rw [if_neg (by omega), if_neg hc.ne', Int.sign_eq_one_of_pos hc, one_mul]

theorem gainOf_zero (n2 : Nat) : gainOf 0 n2 = 0 := rfl

theorem gainOf_neg (c : Int) (n2 : Nat) : gainOf (-c) n2 = -gainOf c n2 := by
  rw [gainOf_eq_sign_mul, gainOf_eq_sign_mul, Int.sign_neg, gainMagnitude_neg, neg_mul]

theorem abs_gainOf {c : Int} {n2 : Nat} (h : 0 < n2) : |gainOf c n2| = gainMagnitude c n2 := by
  unfold gainOf
  split_ifs with hneg hzero
  · rw [abs_neg, Nat.abs_cast]
  · rw [hzero, gainMagnitude_zero h]; rfl
  · rw [Nat.abs_cast]

/-- R104: a gain is 0 or has the sign of its component. -/
theorem gainOf_sign (c : Int) (n2 : Nat) : gainOf c n2 = 0 ∨ (gainOf c n2).sign = c.sign := by
  rw [gainOf_eq_sign_mul, Int.sign_mul, Int.sign_sign]
  obtain hm | hm := Nat.eq_zero_or_pos (gainMagnitude c n2)
  · simp [hm]
  · simp [Int.sign_eq_one_of_pos (Int.natCast_pos.mpr hm)]

/-- A component that is the whole length has the greatest gain. -/
theorem gainOf_sqLen_zero {x : Int} (h : x ≠ 0) : gainOf x (sqLen x 0) = x.sign * 32767 := by
  have hcomp : IsComponent x (sqLen x 0) := (IsComponent.of_lt (eps := 0) le_rfl (by simpa)).1
  have hmax := (gainMagnitude_spec x (sqLen x 0)).1
  have hge := (le_gainMagnitude_iff hcomp 32767).mpr (by simp [sqLen_cast])
  rw [gainOf_eq_sign_mul, Nat.le_antisymm hmax hge]
  rfl

/-- Proportional positions give one gain: the test of R102 has both sides scaled alike. -/
theorem gainOf_of_proportional {a b c c' : Int} {n2 n2' : Nat} (ha : 0 < a) (hb : 0 < b) (hc : a * c' = b * c)
    (hn : a * a * n2' = b * b * n2) (h : IsComponent c n2) (h' : IsComponent c' n2') :
    gainOf c' n2' = gainOf c n2 := by
  have hsign : c'.sign = c.sign := by
    simpa [Int.sign_mul, Int.sign_eq_one_of_pos, ha, hb] using congrArg Int.sign hc
  have hmag : gainMagnitude c' n2' = gainMagnitude c n2 := by
    refine eq_of_forall_le_iff fun k => ?_
    have hl : a * a * ((k : Int) * k * n2') = b * b * (k * k * n2) := by linear_combination k * k * hn
    have hr : a * a * (32767 * 32767 * (c' * c')) = b * b * (32767 * 32767 * (c * c)) := by
      linear_combination 32767 * 32767 * (a * c' + b * c) * hc
    rw [le_gainMagnitude_iff h', le_gainMagnitude_iff h, ← mul_le_mul_iff_right₀ (mul_pos ha ha), hl, hr,
      mul_le_mul_iff_right₀ (mul_pos hb hb)]
  rw [gainOf_eq_sign_mul, gainOf_eq_sign_mul, hsign, hmag]

/-- The statement of R102 for one gain. -/
theorem le_abs_gainOf_iff {c : Int} {n2 : Nat} (h : IsComponent c n2) (k : Nat) :
    (k : Int) ≤ |gainOf c n2| ↔ (k : Int) * k * n2 ≤ 32767 * 32767 * (c * c) := by
  rw [abs_gainOf h.pos, Int.ofNat_le, le_gainMagnitude_iff h]

theorem abs_gainOf_le (c : Int) (n2 : Nat) : |gainOf c n2| ≤ 32767 :=
  abs_le.mpr (gainOf_range c n2)

/-- Settles O23: `le_abs_gainOf_iff` at each component. -/
theorem gainIsTheLargestInteger : Obligations.GainIsTheLargestInteger := by
  intro eps x y h0 h
  obtain ⟨hx, hy⟩ := IsComponent.of_lt h0 h
  rw [normVec_of_lt h, ← sqLen_cast]
  exact ⟨fun k _ => ⟨le_abs_gainOf_iff hx k, le_abs_gainOf_iff hy k⟩, abs_gainOf_le _ _, abs_gainOf_le _ _⟩

/-! ### The laws of NORM (R104) -/

theorem normVec_sign (eps x y : Int) :
    ((normVec eps x y).1 = 0 ∨ (normVec eps x y).1.sign = x.sign) ∧
    ((normVec eps x y).2 = 0 ∨ (normVec eps x y).2.sign = y.sign) := by
  rw [normVec_eq]
  split
  · exact ⟨.inl rfl, .inl rfl⟩
  · exact ⟨gainOf_sign _ _, gainOf_sign _ _⟩

theorem normVec_axis {eps x : Int} (h0 : 0 ≤ eps) (h : eps < |x|) : normVec eps x 0 = (x.sign * 32767, 0) := by
  have hx : x ≠ 0 := abs_pos.mp (by omega)
  rw [normVec_of_lt (by simpa using h), gainOf_sqLen_zero hx, gainOf_zero]

theorem normVec_neg_left (eps x y : Int) :
    normVec eps (-x) y = (-(normVec eps x y).1, (normVec eps x y).2) := by
  have hlen : sqLen (-x) y = sqLen x y := by simp [sqLen]
  rw [normVec_eq, normVec_eq, abs_neg, hlen, gainOf_neg]
  split <;> rfl

theorem normVec_swap (eps x y : Int) : normVec eps y x = ((normVec eps x y).2, (normVec eps x y).1) := by
  rw [normVec_eq, normVec_eq, sqLen_comm, add_comm]
  split <;> rfl

theorem normVec_neg_right (eps x y : Int) :
    normVec eps x (-y) = ((normVec eps x y).1, -(normVec eps x y).2) := by
  rw [normVec_swap eps (-y) x, normVec_neg_left, normVec_swap eps x y]

theorem normVec_of_proportional {eps x y x' y' a b : Int} (h0 : 0 ≤ eps) (ha : 0 < a) (hb : 0 < b)
    (hx : a * x' = b * x) (hy : a * y' = b * y) (h : eps < |x| + |y|) (h' : eps < |x'| + |y'|) :
    normVec eps x' y' = normVec eps x y := by
  obtain ⟨hcx, hcy⟩ := IsComponent.of_lt h0 h
  obtain ⟨hcx', hcy'⟩ := IsComponent.of_lt h0 h'
  have hlen : a * a * (sqLen x' y' : Int) = b * b * sqLen x y := by
    rw [sqLen_cast, sqLen_cast]
    linear_combination (a * x' + b * x) * hx + (a * y' + b * y) * hy
  rw [normVec_of_lt h, normVec_of_lt h', gainOf_of_proportional ha hb hx hlen hcx hcx',
    gainOf_of_proportional ha hb hy hlen hcy hcy']

/-- Settles O24: each law is a lemma above; the y axis is the x axis exchanged. -/
theorem normSignAxisSymmetryScale : Obligations.NormSignAxisSymmetryScale := by
  intro eps x y h0
  obtain ⟨hx1, hx2, hy1, hy2⟩ := normVec_range eps x y
  obtain ⟨hsx, hsy⟩ := normVec_sign eps x y
  have haxis {c : Int} (hc : eps < c) : normVec eps c 0 = (32767, 0) := by
    rw [normVec_axis h0 (hc.trans_le (le_abs_self c)), Int.sign_eq_one_of_pos (by omega), one_mul]
  refine ⟨⟨hx1, hx2⟩, ⟨hy1, hy2⟩, hsx, hsy, haxis, fun h => ?_, fun h => ?_, normVec_neg_left eps x y,
    normVec_neg_right eps x y, normVec_swap eps x y, fun x' y' a b => normVec_of_proportional h0⟩
  · rw [← neg_neg x, normVec_neg_left, haxis (by omega)]
  · rw [normVec_swap, haxis h]

/-! ### NORM over the real numbers (R100, R105) -/

/-- The magnitude of a gain before its truncation. -/
noncomputable def realGain (c : Int) (n2 : Nat) : ℝ := 32767 * |(c : ℝ)| / √n2

theorem realGain_nonneg (c : Int) (n2 : Nat) : 0 ≤ realGain c n2 := by
  unfold realGain
  positivity

/-- R102's test over the real numbers is that the candidate is at most the exact quotient. -/
theorem gainMagnitude_eq_floor {c : Int} {n2 : Nat} (h : IsComponent c n2) :
    gainMagnitude c n2 = ⌊realGain c n2⌋₊ := by
  refine eq_of_forall_le_iff fun k => ?_
  have hn2 : (0 : ℝ) < n2 := by exact_mod_cast h.pos
  have hsq : (k : Int) * k * n2 ≤ 32767 * 32767 * (c * c) ↔ (k * √n2) ^ 2 ≤ (32767 * |(c : ℝ)|) ^ 2 := by
    rw [mul_pow, mul_pow, Real.sq_sqrt hn2.le, sq_abs, ← Int.cast_le (R := ℝ)]
    push_cast
    ring_nf
  rw [le_gainMagnitude_iff h, hsq, pow_le_pow_iff_left₀ (by positivity) (by positivity) two_ne_zero,
    Nat.le_floor_iff (realGain_nonneg c n2), realGain, le_div_iff₀ (Real.sqrt_pos.mpr hn2)]

/-- `truncz` (R10): truncation toward zero. -/
noncomputable def truncz (r : ℝ) : Int := if 0 ≤ r then ⌊r⌋ else ⌈r⌉

theorem truncz_of_nonneg {r : ℝ} (h : 0 ≤ r) : truncz r = ⌊r⌋₊ := by
  rw [truncz, if_pos h, Int.natCast_floor_eq_floor h]

theorem truncz_neg (r : ℝ) : truncz (-r) = -truncz r := by
  unfold truncz
  obtain hr | rfl | hr := lt_trichotomy r 0
  · rw [if_pos (by linarith), if_neg (by linarith), Int.floor_neg]
  · simp
  · rw [if_neg (by linarith), if_pos hr.le, Int.ceil_neg]

theorem gainOf_of_nonneg {c : Int} {n2 : Nat} (h : 0 < n2) (hc : 0 ≤ c) : gainOf c n2 = gainMagnitude c n2 := by
  obtain rfl | hc := hc.eq_or_lt
  · rw [gainMagnitude_zero h]; rfl
  · rw [gainOf_eq_sign_mul, Int.sign_eq_one_of_pos hc, one_mul]

/-- R102: a gain is the truncated quotient. -/
theorem gainOf_eq_truncz {c : Int} {n2 : Nat} (h : IsComponent c n2) :
    gainOf c n2 = truncz (32767 * (c : ℝ) / √n2) := by
  have hnonneg {d : Int} (hd : IsComponent d n2) (h0 : 0 ≤ d) : gainOf d n2 = truncz (32767 * (d : ℝ) / √n2) := by
    have hreal : (0 : ℝ) ≤ d := by exact_mod_cast h0
    rw [gainOf_of_nonneg hd.pos h0, gainMagnitude_eq_floor hd, realGain, abs_of_nonneg hreal,
      truncz_of_nonneg (by positivity)]
  obtain hc | hc := le_total 0 c
  · exact hnonneg h hc
  · have hneg := hnonneg (d := -c) ⟨h.pos, by rw [neg_mul_neg]; exact h.le⟩ (by omega)
    rw [gainOf_neg, Int.cast_neg, mul_neg, neg_div, truncz_neg] at hneg
    exact neg_injective hneg

/-- R103: the clamp of R100 changes no gain. -/
theorem gainOf_eq_clamp {c : Int} {n2 : Nat} (h : IsComponent c n2) :
    gainOf c n2 = clamp (truncz (32767 * (c : ℝ) / √n2)) (-32767) 32767 := by
  rw [← gainOf_eq_truncz h, clamp_eq_self (gainOf_range c n2).1 (gainOf_range c n2).2]

section
variable {u : ℝ} (hu : 0 < u)
include hu

/-! The unit of the positions cancels in R100's formulas. -/

theorem abs_add_abs_div_unit (x y : Int) : |(x : ℝ) / u| + |(y : ℝ) / u| = ((|x| + |y| : Int) : ℝ) / u := by
  rw [abs_div, abs_div, abs_of_pos hu, ← add_div]
  push_cast
  rfl

theorem sqrt_div_unit (x y : Int) : √((x : ℝ) / u * (x / u) + y / u * (y / u)) = √(sqLen x y) / u := by
  have hlen : (sqLen x y : ℝ) = x * x + y * y := by exact_mod_cast sqLen_cast x y
  rw [div_mul_div_comm, div_mul_div_comm, ← add_div, ← hlen, Real.sqrt_div' _ (mul_self_nonneg u),
    Real.sqrt_mul_self hu.le]

theorem quotient_div_unit (c n : ℝ) : 32767 * (c / u) / (n / u) = 32767 * c / n := by
  rw [← mul_div_assoc, div_div_div_cancel_right₀ hu.ne']

end

/-- Settles O22: the unit cancels, and off the degenerate set a gain is the clamped, truncated quotient. -/
theorem normIsTheRealFormula : Obligations.NormIsTheRealFormula := by
  intro p eps x y heps
  have hunits : epsUnits p = eps := by rw [epsUnits, heps]; rfl
  have h0 : 0 ≤ eps := hunits ▸ epsUnits_nonneg p
  have hu : (0 : ℝ) < 2 ^ 149 := by positivity
  dsimp only
  rw [hunits, abs_add_abs_div_unit hu, sqrt_div_unit hu, quotient_div_unit hu, quotient_div_unit hu,
    div_le_div_iff_of_pos_right hu, div_lt_div_iff_of_pos_right hu, Int.cast_le, Int.cast_lt]
  refine ⟨normVec_of_degenerate, fun h => ?_⟩
  obtain ⟨hx, hy⟩ := IsComponent.of_lt h0 h
  have hpos : (0 : ℝ) < sqLen x y := by exact_mod_cast hx.pos
  refine ⟨by positivity, ?_⟩
  rw [normVec_of_lt h, gainOf_eq_clamp hx, gainOf_eq_clamp hy]
  rfl

/-! ### Unit length (R104, R105) -/

/-- A gain loses less than one unit by truncation. -/
theorem abs_gainOf_bounds {c : Int} {n2 : Nat} (h : IsComponent c n2) :
    |(gainOf c n2 : ℝ)| ≤ realGain c n2 ∧ realGain c n2 < |(gainOf c n2 : ℝ)| + 1 := by
  have habs : |(gainOf c n2 : ℝ)| = ⌊realGain c n2⌋₊ := by
    rw [← gainMagnitude_eq_floor h, ← Int.cast_abs, abs_gainOf h.pos, Int.cast_natCast]
  rw [habs]
  exact ⟨Nat.floor_le (realGain_nonneg c n2), Nat.lt_floor_add_one _⟩

/-- Before truncation the gains have the length 32767. -/
theorem realGain_sq_add_sq {x y : Int} (h : 0 < sqLen x y) :
    realGain x (sqLen x y) ^ 2 + realGain y (sqLen x y) ^ 2 = 32767 ^ 2 := by
  have hlen : (sqLen x y : ℝ) = x ^ 2 + y ^ 2 := by rw [sq, sq]; exact_mod_cast sqLen_cast x y
  have hpos : (0 : ℝ) < sqLen x y := by exact_mod_cast h
  rw [realGain, realGain, div_pow, div_pow, Real.sq_sqrt hpos.le, mul_pow, mul_pow, sq_abs, sq_abs, ← add_div,
    ← mul_add, ← hlen, mul_div_cancel_right₀ _ hpos.ne']

/-- R105's sketch: a vector in the positive quadrant, shortened by less than 1 in each component, loses less than
`sqrt 2` of its length. -/
theorem length_of_truncated {r s a b len : ℝ} (hlen : r ^ 2 + s ^ 2 = len ^ 2) (h0 : 0 ≤ len) (ha0 : 0 ≤ a)
    (hb0 : 0 ≤ b) (har : a ≤ r) (hra : r < a + 1) (hbs : b ≤ s) (hsb : s < b + 1) :
    len - √2 < √(a ^ 2 + b ^ 2) ∧ √(a ^ 2 + b ^ 2) ≤ len := by
  have hsum : a + b ≤ √2 * √(a ^ 2 + b ^ 2) := by
    rw [← Real.sqrt_mul zero_le_two]
    exact Real.le_sqrt_of_sq_le (by linarith [sq_nonneg (a - b)])
  constructor
  · have hlt : len ^ 2 < (√(a ^ 2 + b ^ 2) + √2) ^ 2 := by
      calc len ^ 2 = r ^ 2 + s ^ 2 := hlen.symm
        _ < (a + 1) ^ 2 + (b + 1) ^ 2 := by gcongr <;> linarith
        _ = a ^ 2 + b ^ 2 + 2 * (a + b) + 2 := by ring
        _ ≤ a ^ 2 + b ^ 2 + 2 * (√2 * √(a ^ 2 + b ^ 2)) + 2 := by gcongr
        _ = (√(a ^ 2 + b ^ 2) + √2) ^ 2 := by
          rw [add_sq, Real.sq_sqrt (by positivity), Real.sq_sqrt zero_le_two]; ring
    exact sub_lt_iff_lt_add.mpr (lt_of_pow_lt_pow_left₀ 2 (by positivity) hlt)
  · refine Real.sqrt_le_iff.mpr ⟨h0, ?_⟩
    rw [← hlen]
    gcongr

/-- The same bounds squared. -/
theorem sq_length_bounds {g len : ℝ} (hg : 0 ≤ g) (h2 : √2 ≤ len) (hlower : len - √2 < √g) (hupper : √g ≤ len) :
    len ^ 2 - 2 * √2 * len < g ∧ g ≤ len ^ 2 := by
  refine ⟨?_, (Real.sqrt_le_iff.mp hupper).2⟩
  calc len ^ 2 - 2 * √2 * len < len ^ 2 - 2 * √2 * len + 2 := lt_add_of_pos_right _ two_pos
    _ = (len - √2) ^ 2 := by rw [sub_sq, Real.sq_sqrt zero_le_two]; ring
    _ ≤ √g ^ 2 := pow_le_pow_left₀ (sub_nonneg.mpr h2) hlower.le 2
    _ = g := Real.sq_sqrt hg

/-- Settles O25: the gains are the components of a vector of length 32767, each truncated. -/
theorem gainsHaveUnitLength : Obligations.GainsHaveUnitLength := by
  intro eps x y h0 h
  obtain ⟨hx, hy⟩ := IsComponent.of_lt h0 h
  have hn : (x : ℝ) ^ 2 + (y : ℝ) ^ 2 = sqLen x y := by rw [sq, sq]; exact_mod_cast (sqLen_cast x y).symm
  obtain ⟨hxle, hxlt⟩ := abs_gainOf_bounds hx
  obtain ⟨hyle, hylt⟩ := abs_gainOf_bounds hy
  obtain ⟨hlower, hupper⟩ := length_of_truncated (realGain_sq_add_sq hx.pos) (by norm_num) (abs_nonneg _)
    (abs_nonneg _) hxle hxlt hyle hylt
  dsimp only
  rw [hn, normVec_of_lt h]
  rw [sq_abs, sq_abs] at hlower hupper
  obtain ⟨hsqLower, hsqUpper⟩ := sq_length_bounds (add_nonneg (sq_nonneg _) (sq_nonneg _))
    (Real.sqrt_le_iff.mpr (by norm_num)) hlower hupper
  exact ⟨hsqLower, hsqUpper, hlower, hupper, sub_lt_iff_lt_add'.mpr hxlt, sub_lt_iff_lt_add'.mpr hylt⟩

end Sys2Proof.Machine
end

section
/-! PROOFS. The statements of 41_motor_update.md: the datapath of UPDATE (R130 to R139, R151), UPDATE and STOP as commands
(R140, R141, R147, R148), the duty a performed UPDATE sends (R143, R145, R146, R153), and the commands that take one
clock edge (R144, R149). -/

namespace Sys2Proof.Machine

/-! ### MULH (R130, R131) -/

theorem mulh_eq (a b : Int) : mulh a b = a * b / 65536 := rfl

theorem mulh_comm (a b : Int) : mulh a b = mulh b a := by
  rw [mulh_eq, mulh_eq, mul_comm]

/-- `sext16_range` in the spelling of this file: a register or operand is read by `BitVec.toInt` (R78). -/
theorem toInt_range (v : Half) : -32768 ≤ v.toInt ∧ v.toInt ≤ 32767 := sext16_range v

theorem abs_toInt_le (v : Half) : |v.toInt| ≤ 32768 := by
  have h := toInt_range v
  rw [abs_le]
  omega

/-- A product one of whose factors is not -32768 stays a whole 32768 away from 2^30. -/
theorem abs_mul_le_of_factor {a b : Int} (ha : |a| ≤ 32768) (hb : |b| ≤ 32767) : |a * b| ≤ 1073709056 := by
  rw [abs_mul]
  exact mul_le_mul ha hb (abs_nonneg b) (by norm_num)

theorem abs_toInt_le_of_ne {v : Half} (h : v.toInt ≠ -32768) : |v.toInt| ≤ 32767 := by
  have hv := toInt_range v
  rw [abs_le]
  omega

/-- The one product of two signed 16-bit values beyond the bound of `abs_mul_le_of_factor` is that of -32768 with
itself (R131). -/
theorem toInt_mul_cases (a b : Half) :
    (a.toInt = -32768 ∧ b.toInt = -32768) ∨ |a.toInt * b.toInt| ≤ 1073709056 := by
  by_cases hb : b.toInt = -32768
  · by_cases ha : a.toInt = -32768
    · exact .inl ⟨ha, hb⟩
    · rw [mul_comm]
      exact .inr (abs_mul_le_of_factor (abs_toInt_le b) (abs_toInt_le_of_ne ha))
  · exact .inr (abs_mul_le_of_factor (abs_toInt_le a) (abs_toInt_le_of_ne hb))

theorem toInt_mul_range (a b : Half) :
    -1073709056 ≤ a.toInt * b.toInt ∧ a.toInt * b.toInt ≤ 1073741824 := by
  obtain ⟨ha, hb⟩ | h := toInt_mul_cases a b
  · rw [ha, hb]; decide
  · rw [abs_le] at h; omega

theorem mulh_range (a b : Half) : -16384 ≤ mulh a.toInt b.toInt ∧ mulh a.toInt b.toInt ≤ 16384 := by
  have h := toInt_mul_range a b
  rw [mulh_eq]
  omega

theorem mulh_eq_max_iff (a b : Half) :
    mulh a.toInt b.toInt = 16384 ↔ a.toInt = -32768 ∧ b.toInt = -32768 := by
  rw [mulh_eq]
  constructor
  · intro hmax
    obtain hmin | h := toInt_mul_cases a b
    · exact hmin
    · rw [abs_le] at h; omega
  · rintro ⟨ha, hb⟩
    rw [ha, hb]; decide

/-- Settles O28: the bounds of MULH are those of the product, of which only (-32768) * (-32768) reaches 2^30. -/
theorem mulhRangeAndLaws : Obligations.MulhRangeAndLaws := by
  intro a b
  obtain ⟨hlo, hhi⟩ := toInt_mul_range a b
  refine ⟨hlo, hhi, (mulh_range a b).1, (mulh_range a b).2, mulh_eq_max_iff a b, mulh_comm _ _, ?_, fun h => ?_⟩
  · rw [mulh_eq, mul_zero, Int.zero_ediv]
  · rw [mulh_eq]; omega

/-- The upper half of a 32-bit word read as signed is the floor of the word over 2^16. -/
theorem toInt_highHalf (x : BitVec 32) : (x.extractLsb' 16 16).toInt = x.toInt / 65536 := by
  have hx := x.isLt
  rw [BitVec.toInt_eq_toNat_cond, BitVec.toInt_eq_toNat_cond, BitVec.extractLsb'_toNat, Nat.shiftRight_eq_div_pow]
  split <;> split <;> omega

theorem toInt_ofInt32 {v : Int} (hlo : -2147483648 ≤ v) (hhi : v ≤ 2147483647) : (BitVec.ofInt 32 v).toInt = v := by
  rw [BitVec.toInt_ofInt]
  exact Int.bmod_eq_of_le (by omega) (by omega)

/-- The 32-bit product of two sign-extended 16-bit values does not wrap (R131). -/
theorem toInt_signExtend_mul (a b : Half) :
    (a.signExtend 32 * b.signExtend 32).toInt = a.toInt * b.toInt := by
  obtain ⟨hlo, hhi⟩ := toInt_mul_range a b
  rw [BitVec.toInt_mul, BitVec.toInt_signExtend_of_le (by omega), BitVec.toInt_signExtend_of_le (by omega)]
  exact Int.bmod_eq_of_le (by omega) (by omega)

/-- Settles O27: the shift of R130 is the division by 2^16, on the rationals and on the 32-bit product alike. -/
theorem mulhIsFloorAndHighWord : Obligations.MulhIsFloorAndHighWord := by
  refine ⟨fun a b => ⟨?_, ?_⟩, by decide, by decide, by decide⟩
  · exact (Rat.floor_intCast_div_natCast _ 65536).symm
  · rw [toInt_highHalf, toInt_signExtend_mul, mulh_eq]

/-! ### The doubled command and the contributions (R132, R133) -/

theorem dbl_eq_two_mul {c : Int} (hlo : -16384 ≤ c) (hhi : c ≤ 16383) : dbl c = 2 * c :=
  wrap16_eq_self (by omega) (by omega)

theorem dbl_eq_shiftLeft (c : Half) : dbl c.toInt = (c <<< 1).toInt := by
  have htwo : (BitVec.twoPow 16 1).toInt = 2 := by decide
  rw [BitVec.shiftLeft_eq_mul_twoPow, BitVec.toInt_mul, htwo, mul_comm]
  rfl

/-- Settles O29: a shift by one is a multiplication by 2 modulo 2^16. -/
theorem doublingWrapsAtSixteenBits : Obligations.DoublingWrapsAtSixteenBits :=
  ⟨fun c => ⟨dbl_eq_shiftLeft c, fun ⟨hlo, hhi⟩ => dbl_eq_two_mul hlo hhi⟩, by decide, by decide, by decide, by decide,
    by decide⟩

/-- A contribution is a MULH of two signed 16-bit values: the doubled command is one again (R132, R133). -/
theorem contribution_eq_mulh (c gain : Half) : contribution c gain = mulh (c <<< 1).toInt gain.toInt := by
  rw [contribution, dbl_eq_shiftLeft]

theorem contribution_range (c gain : Half) : -16384 ≤ contribution c gain ∧ contribution c gain ≤ 16384 := by
  rw [contribution_eq_mulh]
  exact mulh_range (c <<< 1) gain

/-- A legal gain is not -32768, so the contribution stays below MULH's one result 16384 (R22, R133). -/
theorem contribution_lt_of_legal_gain (c : Half) {gain : Half} (h : gain.toInt ≠ -32768) :
    contribution c gain < 16384 := by
  refine lt_of_le_of_ne (contribution_range c gain).2 fun hmax => ?_
  rw [contribution_eq_mulh, mulh_eq_max_iff] at hmax
  exact h hmax.2

/-- Where doubling is exact, the doubling and the 16 dropped bits leave a shift by 15 (R133). -/
theorem contribution_eq_of_exact {c : Half} (hlo : -16384 ≤ c.toInt) (hhi : c.toInt ≤ 16383) (gain : Half) :
    contribution c gain = c.toInt * gain.toInt / 32768 := by
  rw [contribution, dbl_eq_two_mul hlo hhi, mulh_eq, mul_assoc]
  exact Int.mul_ediv_mul_of_pos _ 32768 two_pos

/-- Settles O30: the range of a contribution for a legal gain, and its Q1.15 form as a rational floor. -/
theorem contributionIsQ15Product : Obligations.ContributionIsQ15Product := by
  intro c gain hlo _
  have hmax := contribution_lt_of_legal_gain c (gain := gain) (by omega)
  refine ⟨(contribution_range c gain).1, Int.le_of_lt_add_one hmax, fun ⟨hclo, hchi⟩ => ?_⟩
  rw [contribution_eq_of_exact hclo hchi]
  exact (Rat.floor_intCast_div_natCast _ 32768).symm

/-! ### The yaw term (R134, R135) -/

theorem yawTerm_sign_of_pos {spin : Half} (h : 0 < spin.toInt) (cyaw : Half) :
    yawTerm .sign spin cyaw = cyaw.toInt := if_pos h

theorem yawTerm_sign_of_nonpos {spin : Half} (h : spin.toInt ≤ 0) (cyaw : Half) :
    yawTerm .sign spin cyaw = -cyaw.toInt := if_neg (Int.not_lt.mpr h)

theorem yawTerm_multiply (spin cyaw : Half) : yawTerm .multiply spin cyaw = cyaw.toInt * spin.toInt := rfl

theorem yawTerm_sign_range (spin cyaw : Half) :
    -32768 ≤ yawTerm .sign spin cyaw ∧ yawTerm .sign spin cyaw ≤ 32768 := by
  have h := toInt_range cyaw
  obtain hs | hs := lt_or_ge 0 spin.toInt
  · rw [yawTerm_sign_of_pos hs]; omega
  · rw [yawTerm_sign_of_nonpos hs]; omega

theorem yawTerm_sign_eq_max_iff (spin cyaw : Half) :
    yawTerm .sign spin cyaw = 32768 ↔ cyaw.toInt = -32768 ∧ spin.toInt ≤ 0 := by
  have h := toInt_range cyaw
  obtain hs | hs := lt_or_ge 0 spin.toInt
  · rw [yawTerm_sign_of_pos hs]; omega
  · rw [yawTerm_sign_of_nonpos hs]; omega

theorem yawTerm_multiply_range (spin cyaw : Half) :
    -1073709056 ≤ yawTerm .multiply spin cyaw ∧ yawTerm .multiply spin cyaw ≤ 1073741824 :=
  toInt_mul_range cyaw spin

theorem yawTerm_multiply_of_zero {spin : Half} (h : spin.toInt = 0) (cyaw : Half) :
    yawTerm .multiply spin cyaw = 0 := by
  rw [yawTerm_multiply, h, mul_zero]

/-- A unit spin multiplies by its sign. -/
theorem yawTerm_multiply_of_unit {spin : Half} (h : spin.toInt = 1 ∨ spin.toInt = -1) (cyaw : Half) :
    yawTerm .multiply spin cyaw = yawTerm .sign spin cyaw := by
  obtain h | h := h
  · rw [yawTerm_multiply, yawTerm_sign_of_pos (by omega), h, mul_one]
  · rw [yawTerm_multiply, yawTerm_sign_of_nonpos (by omega), h, mul_neg_one]

/-- Settles O31: one lemma per clause, by YAW_MODE and the sign of SPIN. -/
theorem yawTermByMode : Obligations.YawTermByMode := fun spin cyaw =>
  ⟨fun h => yawTerm_sign_of_pos h cyaw, fun h => yawTerm_sign_of_nonpos h cyaw, (yawTerm_sign_range spin cyaw).1,
    (yawTerm_sign_range spin cyaw).2, yawTerm_sign_eq_max_iff spin cyaw, yawTerm_multiply spin cyaw,
    (yawTerm_multiply_range spin cyaw).1, (yawTerm_multiply_range spin cyaw).2,
    fun h => yawTerm_multiply_of_zero h cyaw, fun h => yawTerm_multiply_of_unit h cyaw⟩

/-! ### The accumulator (R136, R137, R151) -/

theorem accumulate_eq (m : YawMode) (gx gy spin cx cy cyaw thr : Half) :
    accumulate m gx gy spin cx cy cyaw thr =
      thr.toInt + contribution cx gx + contribution cy gy + yawTerm m spin cyaw := rfl

/-- ACC without its yaw term: the throttle and the two contributions. -/
theorem accumulate_sub_yawTerm_range (m : YawMode) (gx gy spin cx cy cyaw thr : Half) :
    -65536 ≤ accumulate m gx gy spin cx cy cyaw thr - yawTerm m spin cyaw ∧
      accumulate m gx gy spin cx cy cyaw thr - yawTerm m spin cyaw ≤ 65535 := by
  have hthr := toInt_range thr
  have hpx := contribution_range cx gx
  have hpy := contribution_range cy gy
  rw [accumulate_eq]
  omega

theorem accumulate_sign_range (gx gy spin cx cy cyaw thr : Half) :
    -98304 ≤ accumulate .sign gx gy spin cx cy cyaw thr ∧ accumulate .sign gx gy spin cx cy cyaw thr ≤ 98304 := by
  have hrest := accumulate_sub_yawTerm_range .sign gx gy spin cx cy cyaw thr
  have hyaw := yawTerm_sign_range spin cyaw
  omega

/-- In either yaw mode ACC is far inside the signed 32-bit range. -/
theorem accumulate_range (m : YawMode) (gx gy spin cx cy cyaw thr : Half) :
    -2147483648 ≤ accumulate m gx gy spin cx cy cyaw thr ∧ accumulate m gx gy spin cx cy cyaw thr ≤ 2147483647 := by
  have hrest := accumulate_sub_yawTerm_range m gx gy spin cx cy cyaw thr
  cases m with
  | sign => have hyaw := yawTerm_sign_range spin cyaw; omega
  | multiply => have hyaw := yawTerm_multiply_range spin cyaw; omega

/-- Settles O32: a sum of 32-bit numbers is the 32-bit number of the exact sum, in any order, and ACC fits 32 bits. -/
theorem accumulatorNeverWraps : Obligations.AccumulatorNeverWraps := by
  intro m gx gy spin cx cy cyaw thr
  obtain ⟨hlo, hhi⟩ := accumulate_range m gx gy spin cx cy cyaw thr
  have hacc := toInt_ofInt32 hlo hhi
  refine ⟨rfl, ?_, ?_, ?_⟩
  · rw [← BitVec.ofInt_add, ← BitVec.ofInt_add, ← BitVec.ofInt_add]
    exact hacc
  · rw [← BitVec.ofInt_add, ← BitVec.ofInt_add, ← BitVec.ofInt_add, ← hacc, accumulate_eq]
    congr 2
    ring
  · rintro rfl
    exact accumulate_sign_range gx gy spin cx cy cyaw thr

/-- Settles O37: in SIGN mode one motor adds the cyaw that the other subtracts; in MULTIPLY mode the signs of the two
spins carry over to the products. -/
theorem yawSignsAreOpposite : Obligations.YawSignsAreOpposite := by
  intro gx gy spin spin' cx cy cyaw thr hpos
  refine ⟨fun hnonpos => ?_, fun hneg => ?_⟩
  · simp only [accumulate_eq, yawTerm_sign_of_pos hpos, yawTerm_sign_of_nonpos hnonpos]
    omega
  · rw [yawTerm_multiply, yawTerm_multiply, Int.sign_mul, Int.sign_mul, Int.sign_eq_one_of_pos hpos,
      Int.sign_eq_neg_one_of_neg hneg, mul_one, mul_neg_one, neg_neg]

/-! ### Saturation and duty scaling (R138, R139) -/

theorem saturate_eq_cases (p : Params) (acc : Int) :
    saturate p acc =
      if acc < p.pulseFloor then p.pulseFloor else if acc > p.pulseCeiling then p.pulseCeiling else acc := by
  obtain ⟨_, _, hceiling, _⟩ := Params.pulse_bounds p
  exact clamp_eq_cases hceiling

theorem saturate_of_lt_floor {p : Params} {acc : Int} (h : acc < p.pulseFloor) : saturate p acc = p.pulseFloor := by
  rw [saturate_eq_cases, if_pos h]

theorem saturate_of_gt_ceiling {p : Params} {acc : Int} (h : acc > p.pulseCeiling) :
    saturate p acc = p.pulseCeiling := by
  obtain ⟨_, _, hceiling, _⟩ := Params.pulse_bounds p
  rw [saturate_eq_cases, if_neg (by omega), if_pos h]

/-- A saturated pulse is one a byte can carry an eighth of (R6). -/
theorem saturate_pulse_range (p : Params) (acc : Int) : 0 ≤ saturate p acc ∧ saturate p acc ≤ 2047 := by
  obtain ⟨hstop, hfloor, _, hmax⟩ := Params.pulse_bounds p
  obtain ⟨hlo, hhi⟩ := saturate_bounds p acc
  omega

theorem dutyOf_saturate_toNat (p : Params) (acc : Int) :
    ((dutyOf (saturate p acc)).toNat : Int) = saturate p acc / 8 :=
  dutyOf_toNat (saturate_pulse_range p acc).1 (saturate_pulse_range p acc).2

/-- The duty is SAT[10:3] (R139). -/
theorem dutyOf_eq_bits {v : Int} (h0 : 0 ≤ v) (h1 : v ≤ 2047) : dutyOf v = (BitVec.ofInt 11 v).extractLsb' 3 8 := by
  have hduty := dutyOf_toNat h0 h1
  apply BitVec.eq_of_toNat_eq
  rw [BitVec.extractLsb'_toNat, BitVec.toNat_ofInt, Nat.shiftRight_eq_div_pow]
  omega

/-- Settles O33: a saturated pulse is in [0, 2047], where floor, truncation and the bits 10:3 are one value. -/
theorem saturationThenDutyScaling : Obligations.SaturationThenDutyScaling := by
  intro p acc
  obtain ⟨h0, h1⟩ := saturate_pulse_range p acc
  refine ⟨saturate_of_lt_floor, saturate_of_gt_ceiling, clamp_eq_self, ?_, ?_, dutyOf_eq_bits h0 h1⟩ <;>
    rw [dutyOf_saturate_toNat]
  · exact (Rat.floor_intCast_div_natCast _ 8).symm
  · exact (Int.tdiv_eq_ediv_of_nonneg h0).symm

/-! ### UPDATE and STOP as commands (R140, R141, R147, R148) -/

theorem exec_update_performed {s : State} (h : s.cfgDone = true) (cx cy cyaw thr : Half) :
    exec (.update cx cy cyaw thr) s = .next (s.drive .running s.chan (s.mix cx cy cyaw thr)) :=
  execUpdate_performed h

/-- Settles O16: a performed UPDATE drives `State.mix`, with the clamp read as the comparisons of R138. -/
theorem updatePerformed : Obligations.UpdatePerformed := by
  intro s cx cy cyaw thr
  refine ⟨execUpdate_ignored, fun hc => ?_⟩
  rw [exec_update_performed hc, State.mix, mixDuty, saturate_eq_cases]
  rfl

/-- Settles O18: a performed STOP drives STOP_DUTY. -/
theorem stopPerformed : Obligations.StopPerformed := fun _ => ⟨execStop_ignored, execStop_performed⟩

/-- Settles O17: neither command is performed, and R39 gives the registers of an unconfigured block. -/
theorem updateAndStopWhenUnconfiguredHaveNoEffect : Obligations.UpdateAndStopWhenUnconfiguredHaveNoEffect := by
  intro s cx cy cyaw thr hc
  refine ⟨execUpdate_ignored hc, execStop_ignored hc, fun hinv => ?_⟩
  obtain ⟨_, _, _, _, hmode, hduty⟩ := hinv.unconfigured hc
  exact ⟨hmode, hduty⟩

/-! ### The duty a performed UPDATE sends (R143, R145, R146, R153) -/

theorem State.mix_toNat (s : State) (cx cy cyaw thr : Half) :
    ((s.mix cx cy cyaw thr).toNat : Int) =
      saturate s.params (accumulate s.params.yawMode s.gainX s.gainY s.spin cx cy cyaw thr) / 8 :=
  dutyOf_saturate_toNat _ _

/-- Settles O34: the duty is an eighth of the saturated ACC. -/
theorem updateDutyStaysInRange : Obligations.UpdateDutyStaysInRange := by
  intro s cx cy cyaw thr hc
  refine ⟨_, exec_update_performed hc cx cy cyaw thr, rfl, ?_, ?_, fun h => ?_, fun h => ?_⟩ <;>
    rw [State.drive_duty, State.mix_toNat]
  · exact Int.ediv_le_ediv (by norm_num) (saturate_bounds _ _).1
  · exact Int.ediv_le_ediv (by norm_num) (saturate_bounds _ _).2
  · rw [saturate_of_gt_ceiling h]
  · rw [saturate_of_lt_floor h]

theorem accumulate_le_of_throttle_le {thr thr' : Half} (h : thr.toInt ≤ thr'.toInt) (m : YawMode)
    (gx gy spin cx cy cyaw : Half) :
    accumulate m gx gy spin cx cy cyaw thr ≤ accumulate m gx gy spin cx cy cyaw thr' := by
  simp only [accumulate_eq]
  omega

/-- Each stage after ACC is monotone, so the duty is (R145). -/
theorem mixDuty_le_of_throttle_le {thr thr' : Half} (h : thr.toInt ≤ thr'.toInt) (p : Params)
    (gx gy spin cx cy cyaw : Half) :
    mixDuty p gx gy spin cx cy cyaw thr ≤ mixDuty p gx gy spin cx cy cyaw thr' :=
  dutyOf_le (saturate_pulse_range p _).1 (clamp_mono (accumulate_le_of_throttle_le h _ _ _ _ _ _ _))
    (saturate_pulse_range p _).2

/-- Settles O35: both UPDATEs are performed, with the duties of `mixDuty_le_of_throttle_le`. -/
theorem throttleIsMonotone : Obligations.ThrottleIsMonotone := by
  intro s t t' cx cy cyaw thr thr' hc hle h h'
  cases (exec_update_performed hc cx cy cyaw thr).symm.trans h
  cases (exec_update_performed hc cx cy cyaw thr').symm.trans h'
  exact BitVec.le_def.mp (mixDuty_le_of_throttle_le hle s.params s.gainX s.gainY s.spin cx cy cyaw)

/-- Settles O36: the duty and the channel of a performed UPDATE read only the fields on which the two states agree. -/
theorem updateHasNoHistory : Obligations.UpdateHasNoHistory := by
  intro s s' cx cy cyaw thr hc hc' hparams hgx hgy hspin hchan
  have hmix : s.mix cx cy cyaw thr = s'.mix cx cy cyaw thr := by
    rw [State.mix, State.mix, hparams, hgx, hgy, hspin]
  refine ⟨_, _, exec_update_performed hc cx cy cyaw thr, exec_update_performed hc' cx cy cyaw thr, ?_⟩
  rw [← hmix, ← hchan]
  exact ⟨rfl, rfl, rfl, _, rfl, rfl⟩

/-! ### Commands of one clock edge (R144, R149, R107 to R109) -/

theorem eq_config_of_configOperands? {i : Instr} {ops : ConfigOperands} (h : i.configOperands? = some ops) :
    i = .config ops.chan ops.spin ops.mx ops.my := by
  cases i with
  | config chan spin mx my => cases h; rfl
  | _ => cases h

/-- The accepting edge of a word that is not a CONFIG about to be performed executes its command at once. -/
theorem clockEdge_eq_exec {s : State} {w : CmdWord} (hl : s.latch = none)
    (hw : ∀ chan spin mx my, decodeWord w = .config chan spin mx my →
      s.cfgDone = true ∨ f32val mx = none ∨ f32val my = none) :
    clockEdge ⟨false, true, w⟩ s = exec (decodeWord w) s.accept := by
  rw [clockEdge_accept hl]
  exact executeAtEdge_eq_exec fun ops hops =>
    configResult?_eq_none (hw _ _ _ _ (eq_config_of_configOperands? hops))

/-- Settles O54: the edge and the step both execute the command in the state that has accepted it; no command fills the
latch, and a CONFIG that is not performed answers that state. -/
theorem cycleLevelSingleEdgeCommands : Obligations.CycleLevelSingleEdgeCommands := by
  intro s t w rest hl hw
  refine ⟨?_, fun h => ?_, fun ⟨chan, spin, mx, my, hconfig⟩ => ?_⟩
  · rw [clockEdge_eq_exec (s := { s with inputs := rest }) hl hw,
      step_command (s := { s with inputs := .command w :: rest }) hl rfl]
    rfl
  · rw [clockEdge_eq_exec hl hw] at h
    exact t.cmdReady_false_eq_true_iff.mpr (exec_latch_eq_none h hl)
  · rw [clockEdge_eq_exec hl hw, hconfig]
    exact exec_config_ignored (s := s.accept) (hw _ _ _ _ hconfig) chan spin

end Sys2Proof.Machine
end

section
/-! PROOFS. The statements of 60_exceptions.md: every command, step and clock edge answers a next state (R180, R181),
and a reset edge discards a CONFIG in progress (R183, R201). -/

namespace Sys2Proof.Machine

/-! ### Nothing faults, nothing is refused (R180, R181) -/

/-- A CONFIG answers a next state, performed or not. -/
theorem exists_execConfig (chan : Byte) (spin : Half) (mx my : F32) (s : State) :
    ∃ t, execConfig chan spin mx my s = .next t := by
  cases hg : s.configResult? mx my with
  | some g => exact ⟨_, execConfig_performed hg⟩
  | none => exact ⟨_, execConfig_ignored hg⟩

/-- Every command answers a next state. -/
theorem exists_exec (i : Instr) (s : State) : ∃ t, exec i s = .next t := by
  cases i with
  | config chan spin mx my => exact exists_execConfig chan spin mx my s
  | update cx cy cyaw thr =>
    cases hc : s.cfgDone with
    | true => exact ⟨_, execUpdate_performed hc⟩
    | false => exact ⟨_, execUpdate_ignored hc⟩
  | stop =>
    cases hc : s.cfgDone with
    | true => exact ⟨_, execStop_performed hc⟩
    | false => exact ⟨_, execStop_ignored hc⟩
  | _ => exact ⟨s, rfl⟩

/-- A CONFIG answers a next state at its accepting edge, also when it needs further edges. -/
theorem exists_beginConfig (s : State) (ops : ConfigOperands) : ∃ t, s.beginConfig ops = .next t := by
  unfold State.beginConfig
  split
  · exact ⟨_, rfl⟩
  · exact exists_execConfig ops.chan ops.spin ops.mx ops.my s

/-- Every command answers a next state at its accepting edge. -/
theorem exists_executeAtEdge (s : State) (i : Instr) : ∃ t, s.executeAtEdge i = .next t := by
  unfold State.executeAtEdge
  split
  · exact exists_beginConfig s _
  · exact exists_exec i s

/-- A step that finds a CONFIG in progress and no reset edge completes the CONFIG. -/
theorem step_busy {s : State} {c : ConfigInFlight} (hl : s.latch = some c) (hi : ∀ rest, s.inputs ≠ .reset :: rest) :
    step s = .next (s.endCycle.finishConfig c) := by
  unfold step
  match hs : s.inputs with
  | .reset :: rest => exact absurd hs (hi rest)
  | .command _ :: _ => rw [hl]
  | [] => rw [hl]

/-- The five cases are those of `step`. -/
theorem exists_step (s : State) : ∃ t, step s = .next t := by
  match hi : s.inputs, hl : s.latch with
  | .reset :: rest, _ => exact ⟨_, step_reset hi⟩
  | .command _ :: _, some c => exact ⟨_, step_busy hl (by simp [hi])⟩
  | [], some c => exact ⟨_, step_busy hl (by simp [hi])⟩
  | .command w :: rest, none =>
    rw [step_command hl hi]
    exact exists_exec (decodeWord w) (s.setInputs rest).accept
  | [], none => exact ⟨_, step_idle hl hi⟩

/-- A clock edge with `rst` = 1, whatever else the pins show. -/
theorem clockEdge_reset (valid : Bool) (w : CmdWord) (s : State) : clockEdge ⟨true, valid, w⟩ s = .next s.applyReset :=
  rfl

theorem exists_clockEdge (p : Pins) (s : State) : ∃ t, clockEdge p s = .next t := by
  match p with
  | ⟨true, valid, w⟩ => exact ⟨_, clockEdge_reset valid w s⟩
  | ⟨false, false, w⟩ => exact ⟨_, clockEdge_unattended (.inl rfl)⟩
  | ⟨false, true, w⟩ =>
    cases hl : s.latch with
    | some c => exact ⟨_, clockEdge_busy rfl hl⟩
    | none =>
      rw [clockEdge_accept hl]
      exact exists_executeAtEdge s.accept (decodeWord w)

/-- Settles O11: a step or an edge that accepts a command answers what the command does, and every other one a state. -/
theorem everyStepAnswersANextState : Obligations.EveryStepAnswersANextState :=
  fun s => ⟨exists_step s, fun p => exists_clockEdge p s⟩

/-! ### A reset edge during a CONFIG (R183, R201) -/

/-- Settles O55: the reset edge does not read the latch, and the state it leaves is idle with no sink write to end. -/
theorem resetDiscardsAConfigInProgress : Obligations.ResetDiscardsAConfigInProgress := by
  intro s t c valid w _ h
  cases (clockEdge_reset valid w s).symm.trans h
  exact ⟨s.applyReset_latch, s.applyReset_cfgDone, rfl, s.applyReset_sinkLog,
    s.applyReset.cmdReady_false_eq_true_iff.mpr s.applyReset_latch, clockEdge_idle s.applyReset_latch w⟩

end Sys2Proof.Machine
end

section
/-! PROOFS. The statements of 70_reset_and_hazards.md: a reset edge from any state (R200 to R203), and a step or an edge
without a command (R211). -/

namespace Sys2Proof.Machine

/-- Settles O10: with no CONFIG in progress and nothing presented, a step and an edge only end the sink port's cycle. -/
theorem withoutInputNothingChanges : Obligations.WithoutInputNothingChanges :=
  ⟨fun _ => step_idle, fun _ w hl => clockEdge_idle hl w⟩

/-- A reset edge ignores every register (R200) and keeps the writes already driven (R201) and the host's inputs. -/
theorem State.applyReset_eq (s : State) :
    s.applyReset = { State.resetWith s.params with sinkLog := s.sinkLog, inputs := s.inputs } := rfl

/-- Settles O46: in the step and at the clock edge `rst` = 1 is looked at before the latch and the command pins. -/
theorem resetEdgeFromAnyState : Obligations.ResetEdgeFromAnyState := by
  intro s rest valid w
  refine ⟨?_, ?_, s.cmdReady_true⟩
  · rw [step_reset (s := { s with inputs := .reset :: rest }) rfl, State.applyReset_eq]
    simp only [State.setInputs_params, State.setInputs_sinkLog, State.setInputs_inputs]
  · rw [clockEdge_reset, State.applyReset_eq]

end Sys2Proof.Machine
end
